-- ==== Sys2Proof/Word.lean ====
section
/-! DEFINITION. The word types of the part and its two fixed-size groups: eight of a kind (channels, record
banks) and four of a kind (time-of-use bands). -/
namespace Sys2Proof

/-- One byte of a station line frame, or one port item code. -/
abbrev Byte := BitVec 8

/-- One 16-bit word: a port value (R174), a word of a record slot (R155), a raw channel code (R108). -/
abbrev Word := BitVec 16

/-- A time-of-use band, 0 to 3 (scope file, Terms). -/
abbrev Band := Fin 4

/-- The all-ones word: an absent 16-bit value (scope file, Names and notation) and every word of an unwritten
slot (R172). -/
abbrev absentWord : Word := 0xFFFF

/-- Eight of a kind: the channels 0 to 7 (scope file, Sample codes) and the banks 0 to 7 (R155). -/
structure Oct (α : Type) where
  c0 : α
  c1 : α
  c2 : α
  c3 : α
  c4 : α
  c5 : α
  c6 : α
  c7 : α
  deriving DecidableEq, Repr

/-- The member with number `i`. -/
def Oct.get {α : Type} (v : Oct α) (i : Fin 8) : α :=
  match i.val with
  | 0 => v.c0
  | 1 => v.c1
  | 2 => v.c2
  | 3 => v.c3
  | 4 => v.c4
  | 5 => v.c5
  | 6 => v.c6
  | _ => v.c7

/-- The group with member `i` replaced. -/
def Oct.set {α : Type} (v : Oct α) (i : Fin 8) (x : α) : Oct α :=
  match i.val with
  | 0 => { v with c0 := x }
  | 1 => { v with c1 := x }
  | 2 => { v with c2 := x }
  | 3 => { v with c3 := x }
  | 4 => { v with c4 := x }
  | 5 => { v with c5 := x }
  | 6 => { v with c6 := x }
  | _ => { v with c7 := x }

/-- The group whose member `i` is `f i`. -/
def Oct.ofFn {α : Type} (f : Fin 8 → α) : Oct α :=
  ⟨f 0, f 1, f 2, f 3, f 4, f 5, f 6, f 7⟩

/-- The group whose members are all `x`. -/
def Oct.fill {α : Type} (x : α) : Oct α := ⟨x, x, x, x, x, x, x, x⟩

/-- The eight members, number 0 first. -/
def Oct.toList {α : Type} (v : Oct α) : List α :=
  [v.c0, v.c1, v.c2, v.c3, v.c4, v.c5, v.c6, v.c7]

/-- Four of a kind: one per band 0 to 3. -/
structure Quad (α : Type) where
  b0 : α
  b1 : α
  b2 : α
  b3 : α
  deriving DecidableEq, Repr

/-- The member of band `i`. -/
def Quad.get {α : Type} (v : Quad α) (i : Band) : α :=
  match i.val with
  | 0 => v.b0
  | 1 => v.b1
  | 2 => v.b2
  | _ => v.b3

/-- The group with the member of band `i` replaced. -/
def Quad.set {α : Type} (v : Quad α) (i : Band) (x : α) : Quad α :=
  match i.val with
  | 0 => { v with b0 := x }
  | 1 => { v with b1 := x }
  | 2 => { v with b2 := x }
  | _ => { v with b3 := x }

/-- The group whose members are all `x`. -/
def Quad.fill {α : Type} (x : α) : Quad α := ⟨x, x, x, x⟩

end Sys2Proof
end

