-- ==== Sys2Proof/Syntax.lean ====
section
/-! DEFINITION. The commands of the part: one constructor per row of spec/opcode_table.json, in the table's order, with the
data that comes from outside the part with that step. -/
namespace Sys2Proof

/-- The two word-serial ports (R174). -/
inductive Port where
  /-- Vehicle Port. -/
  | vp
  /-- Fleet Port. -/
  | fp
  deriving DecidableEq, Repr

/-- The order in which hand-overs are taken that the spec says "need no order among themselves" (R89, R113, R140):
in the order the spec lists them, or in the reverse order. DESIGN CHOICE, unsafe: no mixed order
(log entry 4). -/
inductive HandOver where
  | listed
  | reversed
  deriving DecidableEq, Repr

/-- The two band masks of R149. -/
inductive MaskItem where
  | traction
  | heating
  deriving DecidableEq, Repr

/-- The heater settings whose write recomputes the demand (R94). -/
inductive DemandItem where
  | target
  | gain
  | maxPower
  deriving DecidableEq, Repr

/-- The two insulation thresholds (R70). -/
inductive ThresholdItem where
  | warning
  | fault
  deriving DecidableEq, Repr

/-- The two calibration values of a channel (R114). -/
inductive CalItem where
  | offset
  | gain
  deriving DecidableEq, Repr

/-- The four substitution configuration items (R119). -/
inductive SubstItem where
  | select
  | pattern
  | value1
  | value2
  deriving DecidableEq, Repr

/-- One barrier frame (R108): sequence, eight raw values, valid mask (bit c is channel c) and check. -/
structure BarrierFrame where
  seq : BitVec 4
  raw : Oct Word
  valid : Byte
  check : Byte
  deriving DecidableEq, Repr

/-- The four conversions of one channel in one set time (R108): the converter inputs in counts, before saturation. -/
structure Conversions where
  a : Int
  b : Int
  c : Int
  d : Int
  deriving DecidableEq, Repr

/-- The commands. Each docstring names the row's rule and says what the operands are. -/
inductive Instr where
  /-- POWER_ON (R185): supply rise or release of the reset input. -/
  | powerOn
  /-- PLUG_DETECT_RISE (R2). -/
  | plugDetectRise
  /-- PLUG_DETECT_FALL (R2). -/
  | plugDetectFall
  /-- SUPPLY_FAIL_WARNING (R13): the falling edge of the warning line. -/
  | supplyFailWarning
  /-- SUPPLY_FAIL_WARNING_RELEASE (R13). -/
  | supplyFailWarningRelease
  /-- CONVERTER_READY_RISE (R8). -/
  | converterReadyRise
  /-- CONVERTER_READY_FALL (R10). -/
  | converterReadyFall
  /-- CONVERTER_FAULT (R10): assertion of the converter fault input. -/
  | converterFault
  /-- CONVERTER_FAULT_RELEASE (R5). -/
  | converterFaultRelease
  /-- SENSE_DIE_START (R108): the sense die's own supply rises. -/
  | senseDieStart
  /-- SET_TIME (R108): one sense-die set time, with the conversions of the eight channels. -/
  | setTime (conv : Oct Conversions)
  /-- BARRIER_FRAME_ARRIVAL (R111): a frame as it arrives, intact or not. -/
  | barrierFrameArrival (frame : BarrierFrame)
  /-- METROLOGY_SLOT (R112): one slot of the main die; `order` orders the hand-overs of a link change, and `intact` says
  whether the mode setting sent across the barrier at this slot passes the sense die's check (R110). -/
  | metrologySlot (order : HandOver) (intact : Bool)
  /-- PERIOD_CLOSE (R129): the end of the 4,000th slot; `order` orders the six hand-overs of R140. -/
  | periodClose (order : HandOver)
  /-- CONTENT_CLOSED (R49): `bits` are the line bits of the content, inserted zeros included; the closing delimiter
  follows them. -/
  | contentClosed (bits : List Bool)
  /-- ERROR_ABORT (R47): `bits` are line bits of a frame; seven 1s follow them. -/
  | errorAbort (bits : List Bool)
  /-- ERROR_LONG (R47): `bits` are the line bits of a frame up to the completion of the 30th content byte. -/
  | errorLong (bits : List Bool)
  /-- TX_ACCESS_START (R59): the line is high for `ones` further bit times, or until an access begins. -/
  | txAccessStart (ones : Nat)
  /-- FRAME_SUCCESS (R63): the closing delimiter of the frame on the line reads back correctly. -/
  | frameSuccess
  /-- ARBITRATION_LOST (R61): bit `pos` (from 0) of the frame on the line is the first that reads back differently. -/
  | arbitrationLost (pos : Nat)
  /-- LATE_MISMATCH (R62): bit `pos` (from 0) of the frame on the line is the first that reads back differently. -/
  | lateMismatch (pos : Nat)
  /-- ASSIGN (R4): the handling of the ASSIGN frame the dispatcher holds ends. -/
  | assign
  /-- OFFER (R23): the handling of the OFFER frame the dispatcher holds ends. -/
  | offer
  /-- AUTH (R22): the handling of the AUTH frame the dispatcher holds ends. -/
  | auth
  /-- TIME (R146): the handling of the TIME frame the dispatcher holds ends. -/
  | time
  /-- STATION_PAUSE_FRAME (R16): the handling of the station PAUSE the dispatcher holds ends. -/
  | stationPauseFrame
  /-- STATION_RESUME_FRAME (R16): the handling of the station RESUME the dispatcher holds ends. -/
  | stationResumeFrame
  /-- STATION_STOP_FRAME (R10): the handling of the station STOP the dispatcher holds ends. -/
  | stationStopFrame
  /-- NON_STATION_FRAME_DISCARD (R21): the handling of a frame from a talker that is no station ends. -/
  | nonStationFrameDiscard
  /-- HELLO_TIMER_EXPIRY (R3). -/
  | helloTimerExpiry
  /-- SILENCE_1000_MS (R18): the silence timer reaches 1,000 ms. -/
  | silence1000Ms
  /-- SILENCE_10000_MS (R18): the silence timer reaches 10,000 ms. -/
  | silence10000Ms
  /-- PAUSE_TIMER_EXPIRY (R16). -/
  | pauseTimerExpiry
  /-- LINK_LOSS_AGE_EXPIRY (R19): the link-loss age reaches 60,000 ms. -/
  | linkLossAgeExpiry
  /-- CHECKING_TIMER_EXPIRY (R6). -/
  | checkingTimerExpiry
  /-- READY_TIMER_EXPIRY (R8). -/
  | readyTimerExpiry
  /-- STOPPING_TIMER_EXPIRY (R12). -/
  | stoppingTimerExpiry
  /-- REQUEST_TIMER_EXPIRY (R26). -/
  | requestTimerExpiry
  /-- METER_TIMER_EXPIRY (R27). -/
  | meterTimerExpiry
  /-- STATUS_TIMER_EXPIRY (R25). -/
  | statusTimerExpiry
  /-- ALLOCATION_TIMER_EXPIRY (R31). -/
  | allocationTimerExpiry
  /-- SPACING_TIMER_EXPIRY (R73). -/
  | spacingTimerExpiry
  /-- SETTLE_TIMER_EXPIRY (R74). -/
  | settleTimerExpiry
  /-- SETTLE_END (R74): the slot just taken was the first counting slot after the settle time. -/
  | settleEnd
  /-- AVERAGING_END (R75): the slot just taken was the 256th counting slot of the phase; `order` orders the hand-overs of a
  verdict change (R89). -/
  | averagingEnd (order : HandOver)
  /-- DISABLED_TIMER_EXPIRY (R83). -/
  | disabledTimerExpiry
  /-- STALENESS_TIMER_EXPIRY (R93). -/
  | stalenessTimerExpiry
  /-- RUN_TIMER_EXPIRY (R96). -/
  | runTimerExpiry
  /-- ISOLATION_TIMER_EXPIRY (R100). -/
  | isolationTimerExpiry
  /-- INCOMPLETE_WORD (R174): select of port `p` rises after `bits` bits of a word, fewer than 24; none of them where the window
  ends cleanly. -/
  | incompleteWord (p : Port) (bits : Nat)
  /-- AUTHORIZE (R20): Vehicle Port write of SESSION_CMD with value 1. -/
  | authorize
  /-- PAUSE (R20): Vehicle Port write of SESSION_CMD with value 2. -/
  | pause
  /-- RESUME (R20): Vehicle Port write of SESSION_CMD with value 3. -/
  | resume
  /-- STOP (R20): Vehicle Port write of SESSION_CMD with value 4. -/
  | stop
  /-- RESTART (R184): Vehicle Port write of RESTART with value 1. -/
  | restart
  /-- HEAT_RUN (R105): Vehicle Port write of HEATER_CMD with value 1. -/
  | heatRun
  /-- HEAT_STOP (R105): Vehicle Port write of HEATER_CMD with value 2. -/
  | heatStop
  /-- HEATER_UNLOCK (R104): Vehicle Port write of HEATER_CMD with value 3. -/
  | heaterUnlock
  /-- RETEST (R82): Vehicle Port write of RETEST. -/
  | retest
  /-- SUBST_START (R121): Fleet Port write of SUBST_START. -/
  | substStart
  /-- SUBST_STOP (R122): Fleet Port write of SUBST_STOP. -/
  | substStop
  /-- TIME_SET (R146): Fleet Port write of TIME_SET. -/
  | timeSet
  /-- PENDING_CLEAR (R150): Fleet Port write of PENDING_CLEAR. -/
  | pendingClear
  /-- PENDING_ADD (R150): Fleet Port write of PENDING_ADD with a band. -/
  | pendingAdd (value : Word)
  /-- PENDING_PRICE (R150): Fleet Port write of PENDING_PRICE_0 to PENDING_PRICE_3. -/
  | pendingPrice (band : Band) (value : Word)
  /-- TARIFF_COMMIT (R151): Fleet Port write of TARIFF_COMMIT. -/
  | tariffCommit
  /-- BAND_MASK_WRITE (R149): Fleet Port write of TRACTION_MASK or HEATING_MASK. -/
  | bandMaskWrite (item : MaskItem) (value : Word)
  /-- RETIRE (R169): Fleet Port write of RETIRE with a session number. -/
  | retire (value : Word)
  /-- SNAPSHOT (R181): write of SNAPSHOT at port `p`. -/
  | snapshot (p : Port) (value : Word)
  /-- EVENT_MASK (R183): write of EVENT_MASK at port `p`. -/
  | eventMask (p : Port) (value : Word)
  /-- EVENTS (R182): read of EVENTS at port `p`. -/
  | events (p : Port)
  /-- CURSOR_SET (R171): write of CURSOR_SET at port `p`. -/
  | cursorSet (p : Port) (value : Word)
  /-- RECORD_WORD (R171): read of RECORD_WORD at port `p`. -/
  | recordWord (p : Port)
  /-- UNRECORDED_IMPORT_HIGH (R170): Fleet Port read. -/
  | unrecordedImportHigh
  /-- FP_UNRECORDED_CLEAR (R170): Fleet Port read. -/
  | fpUnrecordedClear
  /-- OBC_AC_RATING (R29): Vehicle Port write. -/
  | obcAcRating (value : Word)
  /-- PACK_TEMP (R93): Vehicle Port write. -/
  | packTemp (value : Word)
  /-- DEMAND_SETTING_WRITE (R94): Vehicle Port write of HEATER_TARGET, HEATER_GAIN or HEATER_MAX_POWER. -/
  | demandSettingWrite (item : DemandItem) (value : Word)
  /-- THRESHOLD_WRITE (R70): Vehicle Port write of WARN_THRESHOLD or FAULT_THRESHOLD. -/
  | thresholdWrite (item : ThresholdItem) (value : Word)
  /-- CH_STANDBY (R110): Vehicle Port write of CH_STANDBY_0 to CH_STANDBY_7. -/
  | chStandby (channel : Fin 8) (value : Word)
  /-- IAC_BLOCK (R116): Vehicle Port write. -/
  | iacBlock (value : Word)
  /-- CALIBRATION_WRITE (R114): Fleet Port write of CAL_OFFSET_0 to CAL_GAIN_7. -/
  | calibrationWrite (item : CalItem) (channel : Fin 8) (value : Word)
  /-- SUBST_CONFIG_WRITE (R119): Fleet Port write of SUBST_SELECT, SUBST_PATTERN, SUBST_VALUE_1 or SUBST_VALUE_2. -/
  | substConfigWrite (item : SubstItem) (value : Word)
  /-- ITEM_WRITE (R176): any other complete word at port `p`: a write for a code below 80h, a plain read (R175) for a code of
  80h or above. -/
  | itemWrite (p : Port) (code : Byte) (value : Word)
  /-- DELIMITER_COMPLETES (R47): a delimiter passes on the line. -/
  | delimiterCompletes
  /-- LINE_GOING_IDLE (R47): seven 1s in a row pass on the line. -/
  | lineGoingIdle
  deriving DecidableEq, Repr

end Sys2Proof
end

