-- ==== Sys2Proof/Decode.lean ====
section
/-! DEFINITION. The command a word spells by the opcode table's bits. No row of the table gives bits (each row's fields are
empty), so no word spells a command. -/
namespace Sys2Proof

/-- The command spelled by the `nbits`-bit word `w`: none, since no row of the table gives bits. -/
def decodeTableWord (_nbits _w : Nat) : Option Instr := none

end Sys2Proof
end

