-- ==== Sys2Proof/Config.lean ====
section
/-! DEFINITION. The constants the spec fixes for the part: timer durations, limits and default values; and the one free
value, the level of the select lines at start-up. The spec leaves no result of a command open. -/
namespace Sys2Proof.Config

/-- Family code of the part, carried in HELLO and read as FAMILY (R3, R177). -/
def familyCode : Nat := 72

/-! Timer durations in milliseconds. -/

/-- HELLO timer while the count is below the limit (R3). -/
def helloMs : Nat := 5000
/-- HELLO timer after STATION_ABSENT (R3). -/
def helloSlowMs : Nat := 30000
/-- CHECKING timer (R5). -/
def checkingMs : Nat := 30000
/-- Ready timer (R7). -/
def readyMs : Nat := 2000
/-- STOPPING timer (R12). -/
def stoppingMs : Nat := 1000
/-- REQUEST timer (R26). -/
def requestMs : Nat := 1000
/-- METER timer (R27). -/
def meterMs : Nat := 60000
/-- STATUS timer (R25). -/
def statusMs : Nat := 5000
/-- Allocation timer (R31). -/
def allocationMs : Nat := 100
/-- Parked run timer (R95, R105). -/
def runMs : Nat := 100
/-- Isolation timer (R100). -/
def isolationMs : Nat := 200
/-- Pack temperature staleness timer (R93). -/
def staleMs : Nat := 5000
/-- Disabled timer (R77). -/
def disabledMs : Nat := 60000
/-- First silence limit (R18). -/
def silentMs : Nat := 1000
/-- Second silence limit (R18). -/
def lostMs : Nat := 10000
/-- Age of LINK_LOSS that stops a live session (R19). -/
def linkLostMs : Nat := 60000

/-! Metering. -/

/-- Slots of one period (R126). -/
def slotsPerPeriod : Nat := 4000
/-- Counting slots of one averaging phase (R75). -/
def averagingSlots : Nat := 256
/-- Energy units of one watt-hour (R136). -/
def whUnit : Nat := 360000000000
/-- Energy units of one watt-second, the divisor of R102 and R142. -/
def wattSecond : Nat := 100000000
/-- VBUS_mean below which the bus counts as off, 50 V (R32, R77, R97). -/
def lowBus : Int := 2500
/-- V_rms below which the allocator reports NO_VOLTAGE, 100 V (R32). -/
def lowVrms : Nat := 5000

/-! Defaults of settings. -/

/-- Defaults of the vehicle's allocator claims (R29). -/
def defaultRating : Nat := 320
/-- Default converter efficiency (R29). -/
def defaultEfficiency : Nat := 940
/-- Default bridge resistor R_M (R70). -/
def defaultBridge : Nat := 500
/-- Default warning threshold (R70). -/
def defaultWarn : Nat := 500
/-- Default fault threshold (R70). -/
def defaultFault : Nat := 100
/-- Default settle time in ms (R70). -/
def defaultSettle : Nat := 600
/-- Default cycle spacing in s (R70). -/
def defaultSpacing : Nat := 5
/-- Default heater target temperature (R92). -/
def defaultTarget : Int := 50
/-- Default heater gain (R92). -/
def defaultHeaterGain : Nat := 50
/-- Default heater current limit (R92). -/
def defaultCurrentLimit : Nat := 12500
/-- Default run allowance (R92). -/
def defaultAllowance : Nat := 1000
/-- Default heater resistance rating (R92). -/
def defaultResistance : Nat := 320
/-- Default creep threshold (R125). -/
def defaultCreep : Nat := 20
/-- Unity calibration gain (R114). -/
def unityGain : Nat := 32768

/-! Free values: nothing constrains them (log entry 6). -/

/-- Whether select of the Vehicle Port stands low at the start-up of that number, with no word of its window complete (R185). -/
opaque vpSelectLow : Nat → Bool
/-- The same for select of the Fleet Port. -/
opaque fpSelectLow : Nat → Bool

end Sys2Proof.Config
end

