-- ==== Sys2Proof/Machine/State.lean ====
section
/-! DEFINITION. The state of the part, block by block as the chapters give it, as plain data; the fault and refusal types; the
state of a part that has never been used, right after power-on. -/
namespace Sys2Proof.Machine

/-! ### Timers -/

/-- A timer: `none` while it is stopped, else the duration in ms it was last started with. How much of the duration has run off
is not counted: the table's expiry rows say when it has. DESIGN CHOICE, safe (log entry 3). -/
abbrev Timer := Option Nat

/-! ### Charge Session Controller (R1) -/

/-- The session states; codes 0 to 8 in this order (section 1.1). -/
inductive Session where
  | unplugged
  | linking
  | ready
  | checking
  | starting
  | transfer
  | hold
  | stopping
  | ended
  deriving DecidableEq, Repr

/-- The hold reasons; codes 0 to 6 in this order (section 1.5). -/
inductive HoldReason where
  | vehiclePause
  | stationPause
  | offerZero
  | stationSilent
  | linkLoss
  | bandWait
  | noVoltage
  deriving DecidableEq, Repr

/-- The hold set (R1): which reasons are held. -/
structure HoldSet where
  vehiclePause : Bool
  stationPause : Bool
  offerZero : Bool
  stationSilent : Bool
  linkLoss : Bool
  bandWait : Bool
  noVoltage : Bool
  deriving DecidableEq, Repr

/-- The stop reasons; codes 1 to 12 in this order (R10). -/
inductive StopReason where
  | vehicleStop
  | stationStop
  | stationLost
  | linkLost
  | insulationFault
  | insulationUnverified
  | converterFault
  | converterTimeout
  | noRecordSpace
  | unplugged
  | supplyLoss
  | vehicleRestart
  deriving DecidableEq, Repr

/-- An offer in force: maximum and minimum in deciamps, and its sequence (R1). -/
structure Offer where
  max : Nat
  min : Nat
  seq : Nat
  deriving DecidableEq, Repr

/-- The fields of a received station kind, after the treatment of R54 (R66). -/
inductive StationMsg where
  | assign (outlet : Nat) (identity : Word)
  | offer (seq max min : Nat)
  | auth (ref : BitVec 32)
  | time (day second : Nat)
  | pause (seconds : Nat)
  | resume
  | stop (reason : Byte)
  deriving DecidableEq, Repr

/-- A received frame as it waits in the queue: its source byte and its fields (R66). -/
structure RxFrame where
  src : Byte
  msg : StationMsg
  deriving DecidableEq, Repr

/-- The Charge Session Controller (R1). -/
structure Csc where
  session : Session
  holds : HoldSet
  stopReason : Option StopReason
  /-- Vehicle authorization. -/
  auth : Bool
  /-- Station authorization reference, all ones when absent. -/
  authRef : BitVec 32
  /-- Station identity, all ones when absent. -/
  identity : Word
  offer : Option Offer
  unrecorded : Bool
  helloCount : Nat
  /-- STATION_ABSENT has been raised since entry to LINKING (R3, the last row of its table). -/
  absentRaised : Bool
  pauseT : Timer
  /-- Silence timer: stopped, or the greatest of 0, 1,000 and 10,000 ms it has reached (R18). -/
  silence : Timer
  /-- Link-loss age: stopped, or the greater of 0 and 60,000 ms it has reached (R19). -/
  linkAge : Timer
  checkingT : Timer
  readyT : Timer
  stoppingT : Timer
  requestT : Timer
  meterT : Timer
  statusT : Timer
  helloT : Timer
  /-- The frame the dispatcher handles; `none` while it is free (R21). -/
  dispatcher : Option RxFrame
  /-- The dispatcher took the frame it handles in UNPLUGGED, so that its handling ends without effect (R2, R55). -/
  takenUnplugged : Bool
  /-- Current field of the last REQUEST scheduled (R26). -/
  lastField : Nat
  /-- Converter enable output (section 1.1). -/
  enable : Bool
  deriving DecidableEq, Repr

/-- The input lines (scope file, Further lines). -/
structure Pins where
  /-- Plug present. -/
  plug : Bool
  /-- Converter ready asserted. -/
  ready : Bool
  /-- Converter fault asserted. -/
  fault : Bool
  /-- Supply-fail warning asserted. -/
  supplyFail : Bool
  deriving DecidableEq, Repr

/-! ### Charge Allocator (R28, R29) -/

/-- The Charge Allocator (R28); the present setpoint is the converter setpoint output (R42). -/
structure Alc where
  timer : Timer
  setpoint : Nat
  target : Nat
  lastRequest : Nat
  grant : Nat
  share : Nat
  vrms : Nat
  vbus : Int
  quiet : Bool
  /-- Converter AC rating I_obc_max. -/
  rating : Nat
  /-- Battery DC current limit I_batlim. -/
  currentLimit : Nat
  /-- Battery power limit P_batlim. -/
  powerLimit : Nat
  /-- Converter efficiency, per mille. -/
  efficiency : Nat
  deriving DecidableEq, Repr

/-! ### Station Line Controller (section 3.1) -/

/-- Receive assembler states (R47). -/
inductive RxState where
  | hunt
  | assemble
  | skip
  deriving DecidableEq, Repr

/-- The receive assembler (R47). `content` holds the content bits known to be content; `zero` says that one further 0 was
read that may open a delimiter; `ones` is the run of 1s since the last 0, held at 7. The check register of R48 is computed
from the content bits. DESIGN CHOICE, safe (log entry 17). -/
structure Rx where
  st : RxState
  content : List Bool
  zero : Bool
  ones : Nat
  deriving DecidableEq, Repr

/-- Last line error (R49), codes 0 to 6 in this order. -/
inductive LineError where
  | none
  | abort
  | fractional
  | short
  | long
  | check
  | length
  deriving DecidableEq, Repr

/-- The kinds the part sends, highest first in the order of R58. -/
inductive TxKind where
  | stop
  | request
  | meter
  | status
  | hello
  deriving DecidableEq, Repr

/-- An outgoing frame as built at scheduling (R67). -/
structure TxFrame where
  dest : Byte
  src : Byte
  kind : Byte
  payload : List Byte
  deriving DecidableEq, Repr

/-- One entry of the pending table (R56): its frame with its failure count, and the replacement held while the frame is on the
line. -/
structure TxEntry where
  frame : Option TxFrame
  fails : Nat
  replacement : Option TxFrame
  deriving DecidableEq, Repr

/-- The transmit pending table (R56), one entry per kind. -/
structure TxTable where
  stop : TxEntry
  request : TxEntry
  meter : TxEntry
  status : TxEntry
  hello : TxEntry
  deriving DecidableEq, Repr

/-- The frame on the line (R58 to R63): its kind, its line bits, how many of them are under arbitration (R60), how many frames
of this access were sent before it, and whether its entry has been withdrawn meanwhile (R57). -/
structure Sending where
  kind : TxKind
  bits : List Bool
  arbitration : Nat
  sentBefore : Nat
  withdrawn : Bool
  deriving DecidableEq, Repr

/-- The Station Line Controller (section 3.1). Its transmitter is SENDING while `sending` is present; else it is WAITING or
EMPTY by the table (R58). -/
structure Slc where
  rx : Rx
  /-- Value of match slot 0 (R51); its mask is FFh. -/
  ownAddr : Byte
  group2Value : Byte
  group2Mask : Byte
  group3Value : Byte
  group3Mask : Byte
  queue : List RxFrame
  table : TxTable
  sending : Option Sending
  idle : Nat
  deferring : Bool
  lastError : LineError
  deriving DecidableEq, Repr

/-! ### Insulation Monitor (R69, R70) -/

/-- Cycle states (section 4.2.1). -/
inductive CycleState where
  | disabled
  | idle
  | isolating
  | settleA
  | averageA
  | settleB
  | averageB
  deriving DecidableEq, Repr

/-- Cycle kinds (R69). -/
inductive CycleKind where
  | normal
  | branch
  | unlock
  deriving DecidableEq, Repr

/-- The verdict; codes 0 to 3 in this order (R65). -/
inductive Verdict where
  | unknown
  | good
  | warning
  | fault
  deriving DecidableEq, Repr

/-- The cause of a verdict; codes 0 to 2 in this order (R65). -/
inductive Cause where
  | none
  | bus
  | heater
  deriving DecidableEq, Repr

/-- The result record of the last completed cycle (R88). -/
structure CycleResult where
  rp : Option Nat
  rn : Option Nat
  min : Option Nat
  busVolts : Option Int
  disturbed : Bool
  branch : Bool
  heaterIsolated : Bool
  restarts : Nat
  day : Nat
  second : Nat
  deriving DecidableEq, Repr

/-- Phase A averages (R75). -/
structure AveragesA where
  vp : Int
  vn : Int
  deriving DecidableEq, Repr

/-- Phase B averages (R75). -/
structure AveragesB where
  vp : Int
  vn : Int
  vbus : Int
  deriving DecidableEq, Repr

/-- The minimum and fault limit of a triggering cycle (R84). -/
structure Trigger where
  min : Int
  limit : Int
  deriving DecidableEq, Repr

/-- The retest state while it is on (R82): its good count and its cycle count. -/
structure Retest where
  good : Nat
  cycles : Nat
  deriving DecidableEq, Repr

/-- The Insulation Monitor (R69). The switch outputs and the quiet window follow the cycle state (R71). -/
structure Imn where
  st : CycleState
  kind : CycleKind
  restarts : Nat
  avgA : Option AveragesA
  avgB : Option AveragesB
  /-- Running sums of the averaging phase and the counting slots taken into them (R75). -/
  sumP : Int
  sumN : Int
  sumV : Int
  count : Nat
  /-- A counting slot has come since the settle timer expired (R74). -/
  settleReady : Bool
  /-- The heater contactor was open at the opening of the phase A window, and of the phase B window (R80). -/
  isolatedA : Bool
  isolatedB : Bool
  checkPending : Bool
  retestPending : Bool
  unlockPending : Bool
  spacedPending : Bool
  /-- The running cycle (for a branch pair, its triggering cycle) began after the pending CHECK, and after the pending RETEST
  (R72, R82, R89). -/
  servesCheck : Bool
  servesRetest : Bool
  trigger : Option Trigger
  spacingT : Timer
  settleT : Timer
  disabledT : Timer
  verdict : Verdict
  cause : Cause
  latch : Bool
  faultCount : Nat
  retest : Option Retest
  stale : Bool
  fresh : Bool
  result : Option CycleResult
  /-- Bridge resistor R_M in kΩ. -/
  bridge : Nat
  warnThreshold : Nat
  faultThreshold : Nat
  settleMs : Nat
  spacingS : Nat
  deriving DecidableEq, Repr

/-! ### Battery Heater Controller (R91, R92) -/

/-- Heater states; codes 0 to 6 in this order (R65). -/
inductive HeaterState where
  | off
  | wait
  | heating
  | quiet
  | isolated
  | lockedOut
  | spent
  deriving DecidableEq, Repr

/-- Heater modes; codes 0 to 2 in this order (R178). -/
inductive HeaterMode where
  | none
  | plugged
  | parked
  deriving DecidableEq, Repr

/-- Lockout causes; codes 0 to 3 in this order (R103). -/
inductive LockCause where
  | none
  | heater
  | overcurrent
  | overdraw
  deriving DecidableEq, Repr

/-- The wait reasons held (R91). -/
structure WaitReasons where
  grantZero : Bool
  band : Bool
  stale : Bool
  substitution : Bool
  unlockTest : Bool
  deriving DecidableEq, Repr

/-- A parked run (R91, R105): allowance in Wh, cap in W, and run Wh. -/
structure ParkedRun where
  allowance : Nat
  cap : Nat
  wh : Nat
  deriving DecidableEq, Repr

/-- The Battery Heater Controller (R91). `duty` is the heater gate output, `contactor` the heater contactor output. The request
is the demand under the three conditions of R94, else 0. -/
structure Bhc where
  st : HeaterState
  mode : HeaterMode
  waits : WaitReasons
  demand : Nat
  grant : Nat
  dutyGrant : Nat
  duty : Nat
  contactor : Bool
  lockCause : LockCause
  run : Option ParkedRun
  packTemp : Option Int
  staleT : Timer
  runT : Timer
  isolationT : Timer
  isolationHold : Bool
  spentPending : Bool
  quiet : Bool
  overdraw : Nat
  peakGrant : Nat
  vbus : Int
  /-- The unlock test has begun and its UNLOCK request waits until the contactor may close (R100, R104). -/
  unlockDue : Bool
  target : Int
  gain : Nat
  maxPower : Nat
  currentLimit : Nat
  allowance : Nat
  cap : Nat
  /-- Heater resistance rating R_h in 0.1 Ω. -/
  resistance : Nat
  deriving DecidableEq, Repr

/-! ### Sense die, barrier link, slot assembly (R108 to R123) -/

/-- Channel modes; codes 0 to 2 in this order (R109, R110). -/
inductive ChannelMode where
  | active
  | light
  | deep
  deriving DecidableEq, Repr

/-- The sense die (R108, R109): the sequence of its next frame, the mode and remaining recovery sets of each channel, the mode
setting it received last, and the frame it sent last. -/
structure Sfe where
  seq : BitVec 4
  modes : Oct ChannelMode
  recovery : Oct Nat
  received : Oct ChannelMode
  sent : Option BarrierFrame
  deriving DecidableEq, Repr

/-- A sample set in the elastic store: raw values and valid mask (R108, R111). -/
structure SampleSet where
  raw : Oct Word
  valid : Byte
  deriving DecidableEq, Repr

/-- Slot kinds (R112). -/
inductive SlotKind where
  | fresh
  | slipRepeat
  | gap
  deriving DecidableEq, Repr

/-- The barrier link and elastic store (R111 to R113, R118). -/
structure Ble where
  store : List SampleSet
  lastSeq : Option (BitVec 4)
  /-- Kind of the previous slot, and the set it used. -/
  prevKind : SlotKind
  prevSet : Option SampleSet
  gapRun : Nat
  linkUp : Bool
  /-- Slip-drops and barrier gaps counted since the previous slot (R118). -/
  newDrops : Nat
  newGaps : Nat
  /-- Cumulative counts (R118). -/
  slipDrops : Nat
  slipRepeats : Nat
  gapSlots : Nat
  barrierGaps : Nat
  deriving DecidableEq, Repr

/-- Substitution patterns; codes 0 to 4 in this order (R119). -/
inductive Pattern where
  | none
  | ramp
  | prbs
  | constant
  | alternate
  deriving DecidableEq, Repr

/-- The substitution record of one channel (R119). -/
structure SubstRecord where
  pattern : Pattern
  value1 : Word
  value2 : Word
  deriving DecidableEq, Repr

/-- A pattern generator (R120): the RAMP, CONSTANT or ALTERNATE value in force, the PRBS register, and whether ALTERNATE stands
on its second value. -/
structure Generator where
  value : Word
  register : BitVec 23
  second : Bool
  deriving DecidableEq, Repr

/-- Substitution states; codes 0 to 3 in this order (R121, R179). -/
inductive SubstState where
  | off
  | armed
  | running
  | ending
  deriving DecidableEq, Repr

/-- IAC_BLOCK (R116), codes 0 to 2 in this order. -/
inductive Block where
  | none
  | sensorA
  | sensorB
  deriving DecidableEq, Repr

/-- Slot assembly (R110, R114 to R123). -/
structure Asm where
  /-- Standby requests. -/
  standby : Oct ChannelMode
  offset : Oct Int
  gain : Oct Nat
  block : Block
  disagreeRun : Nat
  agreeRun : Nat
  disagree : Bool
  /-- SINGLE and DISAGREE of the last slot, and which channels were valid in the last slot (R118). -/
  single : Bool
  disagreeLast : Bool
  validLast : Oct Bool
  substSelect : Fin 8
  substConfig : Oct SubstRecord
  subst : SubstState
  /-- The period in progress is substituted: RUNNING, or ENDING entered from RUNNING (R121). -/
  substituting : Bool
  /-- The substitution is marked cancelled (R122). -/
  cancelled : Bool
  /-- CANCELLED of the last SUBST_DONE (R179). -/
  doneCancelled : Bool
  generators : Oct Generator
  deriving DecidableEq, Repr

/-! ### Metering Engine (R124) -/

/-- A positive accumulator: remainder in eu and whole Wh (R136). -/
structure Acc where
  rem : Nat
  wh : Nat
  deriving DecidableEq, Repr

/-- The import/export accumulator: signed remainder, import Wh, export Wh (R136). -/
structure NetAcc where
  rem : Int
  imp : Nat
  exp : Nat
  deriving DecidableEq, Repr

/-- The session set (R133). -/
structure SessionSet where
  owner : Option Nat
  net : NetAcc
  traction : Quad Acc
  heating : Quad Acc
  dcOut : Acc
  heaterDc : Acc
  tractionTicks : Nat
  heatingTicks : Nat
  deriving DecidableEq, Repr

/-- The verification set (R134). -/
structure VerifSet where
  net : NetAcc
  traction : Acc
  heating : Acc
  dcOut : Acc
  heaterDc : Acc
  deriving DecidableEq, Repr

/-- The period sums (R127). -/
structure Sums where
  ac : Int
  obc : Int
  htr : Int
  vacSq : Nat
  vbus : Int
  iac : Nat
  iobc : Nat
  ihtr : Nat
  n : Nat
  deriving DecidableEq, Repr

/-- The period counts and flags (R128). -/
structure Counts where
  fresh : Nat
  slipRepeats : Nat
  gaps : Nat
  slipDrops : Nat
  barrierGaps : Nat
  substituted : Bool
  disagree : Bool
  single : Bool
  deriving DecidableEq, Repr

/-- The period latches (R126). -/
structure Latches where
  day : Nat
  second : Nat
  timeUnset : Bool
  band : Band
  price : Nat
  creep : Nat
  session : Option Nat
  run : Bool
  stopping : Bool
  deriving DecidableEq, Repr

/-- The route of a period (R132). -/
inductive Route where
  | none
  | session (number : Nat)
  | unrecorded
  | verification
  deriving DecidableEq, Repr

/-- The Wh carried in a close (R139). -/
structure Carried where
  imp : Nat
  exp : Nat
  traction : Nat
  heating : Nat
  dcOut : Nat
  heaterDc : Nat
  unrecorded : Nat
  run : Nat
  deriving DecidableEq, Repr

/-- The period result (R139). -/
structure PeriodResult where
  day : Nat
  second : Nat
  timeUnset : Bool
  stopping : Bool
  band : Band
  n : Nat
  slipRepeats : Nat
  gaps : Nat
  slipDrops : Nat
  barrierGaps : Nat
  substituted : Bool
  disagree : Bool
  single : Bool
  pAc : Int
  pObc : Int
  pHtr : Int
  traction : Nat
  heating : Nat
  vrms : Nat
  vbus : Int
  meanIobc : Nat
  route : Route
  carried : Carried
  runWh : Nat
  deriving DecidableEq, Repr

/-- The Metering Engine (R124). `slot` is the number the next slot has in its period, 4,001 once the period is full and its
close is due. -/
structure Mtr where
  slot : Nat
  sums : Sums
  counts : Counts
  latches : Latches
  sess : SessionSet
  /-- Import remainder of the unrecorded set. -/
  unrecordedRem : Nat
  verif : VerifSet
  run : Acc
  last : Option PeriodResult
  creep : Nat
  deriving DecidableEq, Repr

/-! ### Tariff Table and Clock (R144) -/

/-- Where the time comes from; codes 0 to 2 in this order (R177). -/
inductive TimeSource where
  | none
  | station
  | fleet
  deriving DecidableEq, Repr

/-- One entry of a tariff table (R144). -/
structure TariffEntry where
  start : Nat
  band : Band
  deriving DecidableEq, Repr

/-- The Tariff Table and Clock (R144). Masks hold band b in bit b. -/
structure Ttc where
  table : List TariffEntry
  prices : Quad Nat
  version : Nat
  tractionWritten : BitVec 4
  heatingWritten : BitVec 4
  tractionMask : BitVec 4
  heatingMask : BitVec 4
  pendingTable : List TariffEntry
  pendingPrices : Quad Nat
  commitMark : Bool
  stagedHigh : Nat
  stagedLow : Nat
  timeDay : Nat
  timeHigh : Nat
  timeLow : Nat
  day : Nat
  second : Nat
  source : TimeSource
  /-- The period values (R152). -/
  band : Band
  price : Nat
  timeUnset : Bool
  startDay : Nat
  startSecond : Nat
  deriving DecidableEq, Repr

/-! ### Billing Record Store (R155) -/

/-- Bank states, coded 0 to 3 in this order in BANK_STATES (R172); `settling` is CLOSED with the settlement mark. -/
inductive BankState where
  | free
  | openBank
  | closed
  | settling
  deriving DecidableEq, Repr

/-- One bank: its state and its next slot (R155). -/
structure Bank where
  st : BankState
  next : Nat
  deriving DecidableEq, Repr

/-- One word of the record memory at its address, bank × 1,024 + slot × 16 + word, the numbering of CURSOR (R171). -/
abbrev RecordCell := Nat × Word

/-- The record memory (R155): addresses strictly rising, and no word that equals what an unlisted address reads as (FFFFh, R172).
DEDUCED, safe (log entry 11). -/
abbrev RecordMemory := List RecordCell

/-- The open interval (R160). -/
structure Interval where
  day : Nat
  second : Nat
  band : Band
  periods : Nat
  traction : Nat
  heating : Nat
  imp : Nat
  exp : Nat
  slipDrops : Nat
  slipRepeats : Nat
  gaps : Nat
  barrierGaps : Nat
  timeUnset : Bool
  disagree : Bool
  single : Bool
  hasGaps : Bool
  minInsulation : Option Nat
  peakSetpoint : Nat
  deriving DecidableEq, Repr

/-- A clock reading. -/
structure ClockTime where
  day : Nat
  second : Nat
  deriving DecidableEq, Repr

/-- The summary working fields (R155, R162, R165). -/
structure Working where
  ref : BitVec 32
  truncated : Bool
  timeUnset : Bool
  disagree : Bool
  tariffChanged : Bool
  unclean : Bool
  endTime : Option ClockTime
  reason : Nat
  closeVersion : Option Nat
  deriving DecidableEq, Repr

/-- A port's cursor and slot latch (R155, R171). -/
structure Cursor where
  bank : Fin 8
  slot : Nat
  word : Nat
  latch : Option (List Word)
  deriving DecidableEq, Repr

/-- The unrecorded read copy (R170). -/
structure UnrecordedCopy where
  imp : Nat
  sessions : Nat
  deriving DecidableEq, Repr

/-- The Billing Record Store (R155). -/
structure Brs where
  mem : RecordMemory
  banks : Oct Bank
  counter : Nat
  /-- No-record policy PROCEED. -/
  proceed : Bool
  account : Word
  unrecordedImport : Nat
  unrecordedSessions : Nat
  interval : Interval
  work : Working
  /-- The bank the working fields were made for at its opening (R158). -/
  workBank : Option (Fin 8)
  vpCursor : Cursor
  fpCursor : Cursor
  copy : Option UnrecordedCopy
  retireBank : Fin 8
  deriving DecidableEq, Repr

/-! ### Ports (R174 to R185) -/

/-- One word-serial port: whether a window is open, event flags, mask, last refusal code, snapshot copy (present while the snapshot is on), pending output,
and the word data out carried during the last complete word (R175). The attention output is computed from flags and mask. -/
structure PortState where
  /-- A window is open: select fell and has not risen since (R174). A complete word shows the fall, and POWER_ON finds the level.
  DEDUCED, safe (log entry 6). -/
  windowOpen : Bool
  /-- The start-ups so far, by which each takes a free level of select: the model's own field (log entry 6). -/
  starts : Nat
  /-- The window that stood open at start-up has not ended yet: its words are ignored (R185). -/
  ignoring : Bool
  events : Word
  mask : Word
  lastRefusal : Word
  snapshot : Option (List (Byte × Word))
  pendingOut : Option (Byte × Word)
  dataOut : Byte × Word
  deriving DecidableEq, Repr

/-- The selectors METER_SELECT, TABLE_INDEX and VERIF_SELECT (R185). -/
structure Selectors where
  meter : Nat
  table : Nat
  verif : Nat
  deriving DecidableEq, Repr

/-! ### The whole part -/

/-- The state of the part, and the queue of the commands that wait, first in first out. -/
structure State where
  pins : Pins
  csc : Csc
  alc : Alc
  slc : Slc
  imn : Imn
  bhc : Bhc
  sfe : Sfe
  ble : Ble
  asm : Asm
  mtr : Mtr
  ttc : Ttc
  brs : Brs
  vp : PortState
  fp : PortState
  sel : Selectors
  pending : List Instr
  deriving DecidableEq, Repr

/-- The faults: none. The spec names no condition that stops the part, so no command raises one; having none is safe, since
nothing is hidden behind a stop. -/
inductive Fault where
  deriving DecidableEq, Repr

/-- The refusals. -/
inductive Refusal where
  /-- Answered by exec for a command that has no meaning yet, by its mnemonic; safe, since no claim about such a command can be
  proved. No command of this model answers it. -/
  | notModelled (mnemonic : String)
  deriving DecidableEq, Repr

/-! ### Values after power-on of a part that has never been used -/

/-- Charge Session Controller after power-on (R1). The last REQUEST field is a DESIGN CHOICE, unsafe (log entry 10). -/
def Csc.reset : Csc :=
  { session := .unplugged, holds := ⟨false, false, false, false, false, false, false⟩, stopReason := none, auth := false,
    authRef := 0xFFFFFFFF, identity := absentWord, offer := none, unrecorded := false, helloCount := 0, absentRaised := false,
    pauseT := none, silence := none, linkAge := none, checkingT := none, readyT := none, stoppingT := none, requestT := none,
    meterT := none, statusT := none, helloT := none, dispatcher := none, takenUnplugged := false, lastField := 0,
    enable := false }

/-- Charge Allocator after power-on with efficiency `eta` retained (R28, R29). -/
def Alc.reset (eta : Nat) : Alc :=
  { timer := none, setpoint := 0, target := 0, lastRequest := 0, grant := 0, share := 0, vrms := 0, vbus := 0, quiet := false,
    rating := Config.defaultRating, currentLimit := 0, powerLimit := 0, efficiency := eta }

/-- The receive assembler in HUNT (R68). The run of 1s stands at 7, so that the first delimiter needs its own opening 0.
DESIGN CHOICE, unsafe (log entry 10). -/
def Rx.reset : Rx := { st := .hunt, content := [], zero := false, ones := 7 }

/-- An empty entry of the pending table. -/
def TxEntry.empty : TxEntry := { frame := none, fails := 0, replacement := none }

/-- The empty pending table. -/
def TxTable.empty : TxTable := ⟨.empty, .empty, .empty, .empty, .empty⟩

/-- Station Line Controller after power-on, with the four group items as retained (R68). -/
def Slc.reset (v2 m2 v3 m3 : Byte) : Slc :=
  { rx := .reset, ownAddr := 0x5F, group2Value := v2, group2Mask := m2, group3Value := v3, group3Mask := m3, queue := [],
    table := .empty, sending := none, idle := 0, deferring := false, lastError := .none }

/-- Insulation Monitor after power-on, with R_M as retained (R69, R70).
Sums, counting slots and marks are a DESIGN CHOICE, unsafe (log entry 10). -/
def Imn.reset (rM : Nat) : Imn :=
  { st := .idle, kind := .normal, restarts := 0, avgA := none, avgB := none, sumP := 0, sumN := 0, sumV := 0, count := 0,
    settleReady := false, isolatedA := false, isolatedB := false, checkPending := false, retestPending := false,
    unlockPending := false, spacedPending := false, servesCheck := false, servesRetest := false, trigger := none,
    spacingT := some (Config.defaultSpacing * 1000), settleT := none, disabledT := none, verdict := .unknown, cause := .none,
    latch := false, faultCount := 0, retest := none, stale := false, fresh := false, result := none, bridge := rM,
    warnThreshold := Config.defaultWarn, faultThreshold := Config.defaultFault, settleMs := Config.defaultSettle,
    spacingS := Config.defaultSpacing }

/-- Battery Heater Controller after power-on, with R_h as retained (R91, R92). -/
def Bhc.reset (rH : Nat) : Bhc :=
  { st := .off, mode := .none, waits := ⟨false, false, false, false, false⟩, demand := 0, grant := 0, dutyGrant := 0, duty := 0,
    contactor := false, lockCause := .none, run := none, packTemp := none, staleT := none, runT := none, isolationT := none,
    isolationHold := false, spentPending := false, quiet := false, overdraw := 0, peakGrant := 0, vbus := 0, unlockDue := false,
    target := Config.defaultTarget, gain := Config.defaultHeaterGain, maxPower := 0, currentLimit := Config.defaultCurrentLimit,
    allowance := Config.defaultAllowance, cap := 0, resistance := rH }

/-- The sense die right after its own start (R108). The frame sent last is a DESIGN CHOICE, unsafe (log entry 10). -/
def Sfe.reset : Sfe :=
  { seq := 0, modes := .fill .active, recovery := .fill 8, received := .fill .active, sent := none }

/-- Barrier link and elastic store after power-on (R123). -/
def Ble.reset : Ble :=
  { store := [], lastSeq := none, prevKind := .gap, prevSet := none, gapRun := 0, linkUp := false, newDrops := 0, newGaps := 0,
    slipDrops := 0, slipRepeats := 0, gapSlots := 0, barrierGaps := 0 }

/-- Slot assembly after power-on, with the calibration as retained (R119, R123).
SINGLE and DISAGREE of the last slot, the valid flags, the generators and the two values of each substitution record, whose pattern
R123 returns to NONE, are a DESIGN CHOICE, unsafe (log entry 10). -/
def Asm.reset (offset : Oct Int) (gain : Oct Nat) : Asm :=
  { standby := .fill .active, offset := offset, gain := gain, block := .none, disagreeRun := 0, agreeRun := 0, disagree := false,
    single := false, disagreeLast := false, validLast := .fill false, substSelect := 0, substConfig := .fill ⟨.none, 0, 0⟩, subst := .off,
    substituting := false, cancelled := false, doneCancelled := false, generators := .fill ⟨0, 0, false⟩ }

/-- Cleared period sums (R126). -/
def Sums.zero : Sums := ⟨0, 0, 0, 0, 0, 0, 0, 0, 0⟩

/-- Cleared period counts and flags (R126). -/
def Counts.zero : Counts := ⟨0, 0, 0, 0, 0, false, false, false⟩

/-- A session set with owner `owner` and every accumulator 0 (R126). -/
def SessionSet.clear (owner : Option Nat) : SessionSet :=
  { owner := owner, net := ⟨0, 0, 0⟩, traction := .fill ⟨0, 0⟩, heating := .fill ⟨0, 0⟩, dcOut := ⟨0, 0⟩, heaterDc := ⟨0, 0⟩,
    tractionTicks := 0, heatingTicks := 0 }

/-- A verification set with every accumulator 0 (R134). -/
def VerifSet.clear : VerifSet :=
  { net := ⟨0, 0, 0⟩, traction := ⟨0, 0⟩, heating := ⟨0, 0⟩, dcOut := ⟨0, 0⟩, heaterDc := ⟨0, 0⟩ }

/-- Metering Engine after power-on, with the creep threshold as retained (R124).
The latches before the first slot are a
DESIGN CHOICE, unsafe (log entry 10). -/
def Mtr.reset (creep : Nat) : Mtr :=
  { slot := 1, sums := .zero, counts := .zero,
    latches := { day := 0, second := 0, timeUnset := true, band := 0, price := 0, creep := creep, session := none, run := false,
                 stopping := false },
    sess := .clear none, unrecordedRem := 0, verif := .clear, run := ⟨0, 0⟩, last := none, creep := creep }

/-- Tariff Table and Clock after power-on from the retained table, prices, version and written masks (R144).
The period values before the first slot are a DESIGN CHOICE, unsafe (log entry 10). -/
def Ttc.reset (table : List TariffEntry) (prices : Quad Nat) (version : Nat) (traction heating : BitVec 4) : Ttc :=
  { table := table, prices := prices, version := version, tractionWritten := traction, heatingWritten := heating,
    tractionMask := traction, heatingMask := heating, pendingTable := table, pendingPrices := prices, commitMark := false,
    stagedHigh := 0, stagedLow := 0, timeDay := 0, timeHigh := 0, timeLow := 0, day := 0, second := 0, source := .none,
    band := 0, price := prices.b0, timeUnset := true, startDay := 0, startSecond := 0 }

/-- The empty open interval (R158). -/
def Interval.empty : Interval :=
  { day := 0, second := 0, band := 0, periods := 0, traction := 0, heating := 0, imp := 0, exp := 0, slipDrops := 0,
    slipRepeats := 0, gaps := 0, barrierGaps := 0, timeUnset := false, disagree := false, single := false, hasGaps := false,
    minInsulation := none, peakSetpoint := 0 }

/-- Cleared summary working fields with the reference `ref` (R158). -/
def Working.clear (ref : BitVec 32) : Working :=
  { ref := ref, truncated := false, timeUnset := false, disagree := false, tariffChanged := false, unclean := false,
    endTime := none, reason := 0, closeVersion := none }

/-- A cursor at bank 0, slot 0, word 0 with an empty latch (R155). -/
def Cursor.reset : Cursor := ⟨0, 0, 0, none⟩

/-- A record store that has never opened a bank (R155). -/
def Brs.reset : Brs :=
  { mem := [], banks := .fill ⟨.free, 2⟩, counter := 0, proceed := false, account := 0, unrecordedImport := 0,
    unrecordedSessions := 0, interval := .empty, work := .clear 0xFFFFFFFF, workBank := none, vpCursor := .reset,
    fpCursor := .reset, copy := none, retireBank := 0 }

/-- A port after start-up with its select line high (R185). -/
def PortState.reset : PortState :=
  { windowOpen := false, starts := 0, ignoring := false, events := 0, mask := 0, lastRefusal := 0, snapshot := none, pendingOut := none,
    dataOut := (0xFF, absentWord) }

/-- The selectors after start-up (R185). -/
def Selectors.reset : Selectors := ⟨0, 0, 0⟩

/-- The part right after power-on, never used before, with the plug out, the converter neither ready nor faulty, the supply good and
no window open: every retained item at the value it holds before its first write, the sense die just started, and no command
waiting. -/
def State.reset : State :=
  { pins := ⟨false, false, false, false⟩, csc := .reset, alc := .reset Config.defaultEfficiency, slc := .reset 0 0 0 0,
    imn := .reset Config.defaultBridge, bhc := .reset Config.defaultResistance, sfe := .reset, ble := .reset,
    asm := .reset (.fill 0) (.fill Config.unityGain), mtr := .reset Config.defaultCreep, ttc := .reset [] (.fill 0) 0 15 15,
    brs := .reset, vp := .reset, fp := .reset, sel := .reset, pending := [] }

end Sys2Proof.Machine
end

