-- ==== Sys2Proof/Machine/Operands.lean ====
section
/-! DEFINITION. Operand forms: clamping and rounding, words and signed counts, bytes and bits, the two checks, the station line's
bit stuffing, and the codes by which the part's states are reported. -/
namespace Sys2Proof.Machine

/-! ### Numbers (scope file, Arithmetic) -/

/-- `x` clamped to `lo`..`hi`. -/
def clampNat (lo hi x : Nat) : Nat := max lo (min hi x)

/-- `x` clamped (saturated) to `lo`..`hi`. -/
def clampInt (lo hi x : Int) : Int := max lo (min hi x)

/-- Quotient rounded toward plus infinity, for a positive divisor. -/
def ceilDiv (a b : Nat) : Nat := (a + b - 1) / b

/-- Quotient of integers rounded toward plus infinity, for a positive divisor. -/
def ceilDivInt (a b : Int) : Int := -((-a) / b)

/-- The value of a port word taken as unsigned (R176), clamped to `lo`..`hi`. -/
def clampWord (lo hi : Nat) (w : Word) : Nat := clampNat lo hi w.toNat

/-- The value of a port word taken as two's complement (R176), clamped to `lo`..`hi`. -/
def clampSigned (lo hi : Int) (w : Word) : Int := clampInt lo hi w.toInt

/-- A natural number carried modulo 2^16 in a port word. -/
def natWord (n : Nat) : Word := BitVec.ofNat 16 n

/-- An integer as a two's complement port word. -/
def intWord (x : Int) : Word := BitVec.ofInt 16 x

/-- A Bool as one bit of a port word. -/
def boolNat (b : Bool) : Nat := if b then 1 else 0

/-- Search of `isqrtFrom`: the greatest `r` built from the bits below `k` on top of `r` with `r * r ≤ n`. -/
def isqrtFrom (n : Nat) : Nat → Nat → Nat
  | 0, r => r
  | k + 1, r => isqrtFrom n k (if (r + 2 ^ k) * (r + 2 ^ k) ≤ n then r + 2 ^ k else r)

/-- The integer floor of the square root (R130). -/
def isqrt (n : Nat) : Nat := isqrtFrom n (n.log2 / 2 + 1) 0

/-! ### Bytes and bits (R45: most significant bit and byte first) -/

/-- The bits of a byte, most significant first. -/
def bitsOfByte (b : Byte) : List Bool :=
  [b.getLsbD 7, b.getLsbD 6, b.getLsbD 5, b.getLsbD 4, b.getLsbD 3, b.getLsbD 2, b.getLsbD 1, b.getLsbD 0]

/-- The bits of a byte string. -/
def bitsOfBytes : List Byte → List Bool
  | [] => []
  | b :: bs => bitsOfByte b ++ bitsOfBytes bs

/-- The number a bit string spells, most significant bit first, on top of `acc`. -/
def natOfBits (acc : Nat) : List Bool → Nat
  | [] => acc
  | b :: bs => natOfBits (2 * acc + boolNat b) bs

/-- The whole bytes of a bit string; fewer than eight bits at its end are dropped. -/
def bytesOfBits : List Bool → List Byte
  | a :: b :: c :: d :: e :: f :: g :: h :: rest =>
    BitVec.ofNat 8 (natOfBits 0 [a, b, c, d, e, f, g, h]) :: bytesOfBits rest
  | _ => []

/-- The number a byte string spells, most significant byte first. -/
def natOfBytes (bs : List Byte) : Nat := bs.foldl (fun acc b => acc * 256 + b.toNat) 0

/-- One byte holding `n` modulo 256. -/
def be8 (n : Nat) : List Byte := [BitVec.ofNat 8 n]

/-- `n` modulo 2^16 in two bytes. -/
def be16 (n : Nat) : List Byte := [BitVec.ofNat 8 (n / 256), BitVec.ofNat 8 n]

/-- `n` modulo 2^32 in four bytes. -/
def be32 (n : Nat) : List Byte := be16 (n / 65536) ++ be16 n

/-! ### Checks -/

/-- One bit into the check register of R48. -/
def crc16Bit (r : Word) (b : Bool) : Word :=
  if b == r.getLsbD 15 then r <<< 1 else (r <<< 1) ^^^ 0x1021

/-- The check register of R48 after a bit string, from its preset. -/
def crc16 (bits : List Bool) : Word := bits.foldl crc16Bit 0xFFFF

/-- The two check bytes the transmitter sends: the register's complement, upper byte first (R48). -/
def checkBytes (body : List Byte) : List Byte := be16 (~~~ crc16 (bitsOfBytes body)).toNat

/-- One bit into the barrier frame's CRC-8 register, generator x^8 + x^2 + x + 1 (R108). -/
def crc8Bit (r : Byte) (b : Bool) : Byte :=
  if b == r.getLsbD 7 then r <<< 1 else (r <<< 1) ^^^ 0x07

/-- The bits of a raw word, most significant first. -/
def bitsOfWord (w : Word) : List Bool :=
  bitsOfByte (w.extractLsb' 8 8) ++ bitsOfByte (w.extractLsb' 0 8)

/-- The CRC-8 of a barrier frame over sequence, raw values of channels 0 to 7 and valid mask, each most significant bit first,
from register 00h (R108). The order of the bits is a DESIGN CHOICE, unsafe (log entry 12). -/
def crc8 (seq : BitVec 4) (raw : Oct Word) (valid : Byte) : Byte :=
  let body := [seq.getLsbD 3, seq.getLsbD 2, seq.getLsbD 1, seq.getLsbD 0]
    ++ (raw.toList.map bitsOfWord).flatten ++ bitsOfByte valid
  body.foldl crc8Bit 0

/-! ### Framing on the station line (R46) -/

/-- The delimiter byte 01111110. -/
def delimiter : List Bool := [false, true, true, true, true, true, true, false]

/-- Zero insertion: after five 1s in a row, one 0 goes before the next content bit. `run` counts the 1s just sent. None
goes between a content that ends in five 1s and its closing delimiter: DEDUCED, unsafe (log entry 40). -/
def stuffFrom : Nat → List Bool → List Bool
  | _, [] => []
  | run, b :: bs =>
    if run = 5 then false :: b :: stuffFrom (if b then 1 else 0) bs
    else b :: stuffFrom (if b then run + 1 else 0) bs

/-- The line bits of a content, delimiters apart. -/
def stuff (content : List Bool) : List Bool := stuffFrom 0 content

/-! ### Codes of states and reasons -/

/-- Session state codes (section 1.1). -/
def Session.code : Session → Nat
  | .unplugged => 0
  | .linking => 1
  | .ready => 2
  | .checking => 3
  | .starting => 4
  | .transfer => 5
  | .hold => 6
  | .stopping => 7
  | .ended => 8

/-- Hold reason codes (section 1.5). -/
def HoldReason.code : HoldReason → Nat
  | .vehiclePause => 0
  | .stationPause => 1
  | .offerZero => 2
  | .stationSilent => 3
  | .linkLoss => 4
  | .bandWait => 5
  | .noVoltage => 6

/-- Stop reason codes, also the close reasons of a summary (R10). -/
def StopReason.code : StopReason → Nat
  | .vehicleStop => 1
  | .stationStop => 2
  | .stationLost => 3
  | .linkLost => 4
  | .insulationFault => 5
  | .insulationUnverified => 6
  | .converterFault => 7
  | .converterTimeout => 8
  | .noRecordSpace => 9
  | .unplugged => 10
  | .supplyLoss => 11
  | .vehicleRestart => 12

/-- Code of a stop reason that may be none (R10, R178). -/
def stopCode : Option StopReason → Nat
  | none => 0
  | some r => r.code

/-- Close reason POWER_LOSS, written by the store itself (R10, R168). -/
def powerLossCode : Nat := 13

/-- Line error codes (R49). -/
def LineError.code : LineError → Nat
  | .none => 0
  | .abort => 1
  | .fractional => 2
  | .short => 3
  | .long => 4
  | .check => 5
  | .length => 6

/-- Verdict codes (R65). -/
def Verdict.code : Verdict → Nat
  | .unknown => 0
  | .good => 1
  | .warning => 2
  | .fault => 3

/-- Cause codes (R65). -/
def Cause.code : Cause → Nat
  | .none => 0
  | .bus => 1
  | .heater => 2

/-- Heater state codes (R65). -/
def HeaterState.code : HeaterState → Nat
  | .off => 0
  | .wait => 1
  | .heating => 2
  | .quiet => 3
  | .isolated => 4
  | .lockedOut => 5
  | .spent => 6

/-- Heater mode codes (R178). -/
def HeaterMode.code : HeaterMode → Nat
  | .none => 0
  | .plugged => 1
  | .parked => 2

/-- Lockout cause codes (R103). -/
def LockCause.code : LockCause → Nat
  | .none => 0
  | .heater => 1
  | .overcurrent => 2
  | .overdraw => 3

/-- Channel mode codes (R110). -/
def ChannelMode.code : ChannelMode → Nat
  | .active => 0
  | .light => 1
  | .deep => 2

/-- The standby request a written value asks for: above 2 clamped to 2 (R110). -/
def ChannelMode.ofWord (w : Word) : ChannelMode :=
  if w = 0 then .active else if w = 1 then .light else .deep

/-- Pattern codes (R119). -/
def Pattern.code : Pattern → Nat
  | .none => 0
  | .ramp => 1
  | .prbs => 2
  | .constant => 3
  | .alternate => 4

/-- The pattern a written code asks for: above 4 clamped to 4 (R119). -/
def Pattern.ofWord (w : Word) : Pattern :=
  if w = 0 then .none else if w = 1 then .ramp else if w = 2 then .prbs else if w = 3 then .constant else .alternate

/-- Substitution state codes (R179). -/
def SubstState.code : SubstState → Nat
  | .off => 0
  | .armed => 1
  | .running => 2
  | .ending => 3

/-- IAC_BLOCK codes (R116). -/
def Block.code : Block → Nat
  | .none => 0
  | .sensorA => 1
  | .sensorB => 2

/-- The block a written value asks for: above 2 clamped to 2 (R116). -/
def Block.ofWord (w : Word) : Block :=
  if w = 0 then .none else if w = 1 then .sensorA else .sensorB

/-- Time source codes (R177). -/
def TimeSource.code : TimeSource → Nat
  | .none => 0
  | .station => 1
  | .fleet => 2

/-- Bank state codes (R172). -/
def BankState.code : BankState → Nat
  | .free => 0
  | .openBank => 1
  | .closed => 2
  | .settling => 3

/-- Route codes (R177). -/
def Route.code : Route → Nat
  | .none => 0
  | .session _ => 1
  | .unrecorded => 2
  | .verification => 3

/-- The band a written value names: above 3 clamped to 3 (R150). -/
def bandOfWord (w : Word) : Band :=
  if w = 0 then 0 else if w = 1 then 1 else if w = 2 then 2 else 3

/-- A number 0 to 7 from a written value: above 7 clamped to 7 (R119, R169). -/
def octOfWord (w : Word) : Fin 8 := ⟨min 7 w.toNat, by omega⟩

/-! ### Channels (scope file, Sample codes) -/

/-- Channel VAC. -/
abbrev chVac : Fin 8 := 0
/-- Channel IAC_A. -/
abbrev chIacA : Fin 8 := 1
/-- Channel IAC_B. -/
abbrev chIacB : Fin 8 := 2
/-- Channel VBUS. -/
abbrev chVbus : Fin 8 := 3
/-- Channel IOBC. -/
abbrev chIobc : Fin 8 := 4
/-- Channel IHTR. -/
abbrev chIhtr : Fin 8 := 5
/-- Channel VISO_P. -/
abbrev chVisoP : Fin 8 := 6
/-- Channel VISO_N. -/
abbrev chVisoN : Fin 8 := 7

end Sys2Proof.Machine
end

