-- ==== Sys2Proof/Machine/Flags.lean ====
section
/-! DEFINITION. Sets and flag words: the hold set, the wait reasons, the event flags of the ports, the insulation byte. -/
namespace Sys2Proof.Machine

/-! ### Hold set (R15) -/

/-- Whether a reason is in the hold set. -/
def HoldSet.has (h : HoldSet) : HoldReason → Bool
  | .vehiclePause => h.vehiclePause
  | .stationPause => h.stationPause
  | .offerZero => h.offerZero
  | .stationSilent => h.stationSilent
  | .linkLoss => h.linkLoss
  | .bandWait => h.bandWait
  | .noVoltage => h.noVoltage

/-- The hold set with a reason put in or taken out. -/
def HoldSet.put (h : HoldSet) (r : HoldReason) (b : Bool) : HoldSet :=
  match r with
  | .vehiclePause => { h with vehiclePause := b }
  | .stationPause => { h with stationPause := b }
  | .offerZero => { h with offerZero := b }
  | .stationSilent => { h with stationSilent := b }
  | .linkLoss => { h with linkLoss := b }
  | .bandWait => { h with bandWait := b }
  | .noVoltage => { h with noVoltage := b }

/-- The empty hold set. -/
def HoldSet.empty : HoldSet := ⟨false, false, false, false, false, false, false⟩

/-- Whether no reason is held. -/
def HoldSet.isEmpty (h : HoldSet) : Bool :=
  !(h.vehiclePause || h.stationPause || h.offerZero || h.stationSilent || h.linkLoss || h.bandWait || h.noVoltage)

/-- The hold set as a mask, reason code n in bit n (R25, R65). -/
def HoldSet.mask (h : HoldSet) : Nat :=
  boolNat h.vehiclePause + 2 * boolNat h.stationPause + 4 * boolNat h.offerZero + 8 * boolNat h.stationSilent
    + 16 * boolNat h.linkLoss + 32 * boolNat h.bandWait + 64 * boolNat h.noVoltage

/-! ### Wait reasons (R91) -/

/-- Whether any wait reason is held. -/
def WaitReasons.any (w : WaitReasons) : Bool :=
  w.grantZero || w.band || w.stale || w.substitution || w.unlockTest

/-- Whether the wait reasons hold nothing but, at most, GRANT_ZERO (R94). -/
def WaitReasons.onlyGrantZero (w : WaitReasons) : Bool :=
  !(w.band || w.stale || w.substitution || w.unlockTest)

/-- The wait reasons as WAIT_REASONS reports them (R178). -/
def WaitReasons.mask (w : WaitReasons) : Nat :=
  boolNat w.grantZero + 2 * boolNat w.band + 4 * boolNat w.stale + 8 * boolNat w.substitution + 16 * boolNat w.unlockTest

/-! ### Event flags (R182) -/

/-- Vehicle Port events. -/
inductive VpEvent where
  | session
  | hold
  | stationAbsent
  | lineError
  | rxLost
  | lineFault
  | insulation
  | heater
  | link
  | disagree
  | refusal
  deriving DecidableEq, Repr

/-- Bit of a Vehicle Port event (R182). -/
def VpEvent.bit : VpEvent → Nat
  | .session => 0
  | .hold => 1
  | .stationAbsent => 2
  | .lineError => 3
  | .rxLost => 4
  | .lineFault => 5
  | .insulation => 6
  | .heater => 7
  | .link => 8
  | .disagree => 9
  | .refusal => 15

/-- Fleet Port events. -/
inductive FpEvent where
  | record
  | recordSpace
  | tariff
  | substDone
  | refusal
  deriving DecidableEq, Repr

/-- Bit of a Fleet Port event (R182). -/
def FpEvent.bit : FpEvent → Nat
  | .record => 0
  | .recordSpace => 1
  | .tariff => 2
  | .substDone => 3
  | .refusal => 15

/-- The flag word with one flag set. -/
def setFlag (w : Word) (bit : Nat) : Word := w ||| BitVec.ofNat 16 (2 ^ bit)

/-- The attention output of a port (R183): high while a flag drives it. -/
def attention (p : PortState) : Bool := (p.events &&& p.mask) != 0

/-! ### Refusal codes (R176) -/

/-- The refusals a write can meet. -/
inductive WriteRefusal where
  | notPermitted
  | badItem
  | snapshot
  | busy
  | badState
  | full
  | mismatch
  deriving DecidableEq, Repr

/-- Refusal codes (R176). -/
def WriteRefusal.code : WriteRefusal → Nat
  | .notPermitted => 1
  | .badItem => 2
  | .snapshot => 3
  | .busy => 4
  | .badState => 5
  | .full => 6
  | .mismatch => 7

/-! ### Insulation byte (R65) -/

/-- Verdict, cause and STALE as the STATUS frame carries them. -/
def Imn.statusByte (m : Imn) : Nat := m.verdict.code + 4 * m.cause.code + 16 * boolNat m.stale

end Sys2Proof.Machine
end

