-- ==== Sys2Proof/Machine/Ops.lean ====
section
/-! DEFINITION. The named operations every block's rules are built from: changing one block of the state, raising an event,
refusing a write, the record memory, and the views of the state that several blocks read. -/
namespace Sys2Proof.Machine

/-! ### Changing one block -/

/-- The state with the input lines changed by `f`. -/
def State.modPins (s : State) (f : Pins → Pins) : State := { s with pins := f s.pins }

/-- The state with the Charge Session Controller changed by `f`. -/
def State.modCsc (s : State) (f : Csc → Csc) : State := { s with csc := f s.csc }

/-- The state with the Charge Allocator changed by `f`. -/
def State.modAlc (s : State) (f : Alc → Alc) : State := { s with alc := f s.alc }

/-- The state with the Station Line Controller changed by `f`. -/
def State.modSlc (s : State) (f : Slc → Slc) : State := { s with slc := f s.slc }

/-- The state with the Insulation Monitor changed by `f`. -/
def State.modImn (s : State) (f : Imn → Imn) : State := { s with imn := f s.imn }

/-- The state with the Battery Heater Controller changed by `f`. -/
def State.modBhc (s : State) (f : Bhc → Bhc) : State := { s with bhc := f s.bhc }

/-- The state with the sense die changed by `f`. -/
def State.modSfe (s : State) (f : Sfe → Sfe) : State := { s with sfe := f s.sfe }

/-- The state with the barrier link changed by `f`. -/
def State.modBle (s : State) (f : Ble → Ble) : State := { s with ble := f s.ble }

/-- The state with the slot assembly changed by `f`. -/
def State.modAsm (s : State) (f : Asm → Asm) : State := { s with asm := f s.asm }

/-- The state with the Metering Engine changed by `f`. -/
def State.modMtr (s : State) (f : Mtr → Mtr) : State := { s with mtr := f s.mtr }

/-- The state with the Tariff Table and Clock changed by `f`. -/
def State.modTtc (s : State) (f : Ttc → Ttc) : State := { s with ttc := f s.ttc }

/-- The state with the Billing Record Store changed by `f`. -/
def State.modBrs (s : State) (f : Brs → Brs) : State := { s with brs := f s.brs }

/-- The state with the Vehicle Port changed by `f`. -/
def State.modVp (s : State) (f : PortState → PortState) : State := { s with vp := f s.vp }

/-- The state with the Fleet Port changed by `f`. -/
def State.modFp (s : State) (f : PortState → PortState) : State := { s with fp := f s.fp }

/-- The state with the selectors changed by `f`. -/
def State.modSel (s : State) (f : Selectors → Selectors) : State := { s with sel := f s.sel }

/-! ### Events and refusals (R176, R182) -/

/-- Raise a Vehicle Port event. -/
def raiseVp (e : VpEvent) (s : State) : State := s.modVp fun p => { p with events := setFlag p.events e.bit }

/-- Raise a Fleet Port event. -/
def raiseFp (e : FpEvent) (s : State) : State := s.modFp fun p => { p with events := setFlag p.events e.bit }

/-- The LAST_REFUSAL word of refusal `r` for item `code` (R176). -/
def refusalWord (r : WriteRefusal) (code : Byte) : Word := natWord (r.code * 256 + code.toNat)

/-- Refuse the write of item `code` at port `p`: LAST_REFUSAL and the REFUSAL event, nothing else (R176). -/
def refuse (p : Port) (r : WriteRefusal) (code : Byte) (s : State) : State :=
  match p with
  | .vp => raiseVp .refusal (s.modVp fun q => { q with lastRefusal := refusalWord r code })
  | .fp => raiseFp .refusal (s.modFp fun q => { q with lastRefusal := refusalWord r code })

/-! ### The record memory (R155, R171, R172) -/

/-- What an unlisted address of the record memory reads as: a word of an unwritten slot (R172). -/
def memDefault : Word := absentWord

/-- The word at an address. -/
def memRead : RecordMemory → Nat → Word
  | [], _ => memDefault
  | (k, w) :: rest, a => if k = a then w else memRead rest a

/-- The memory with `v` at address `a`; writing what an unlisted address reads as removes the entry. -/
def memWrite : RecordMemory → Nat → Word → RecordMemory
  | [], a, v => if v = memDefault then [] else [(a, v)]
  | (k, w) :: rest, a, v =>
    if a < k then (if v = memDefault then (k, w) :: rest else (a, v) :: (k, w) :: rest)
    else if a = k then (if v = memDefault then rest else (a, v) :: rest)
    else (k, w) :: memWrite rest a v

/-- The memory with the words `ws` from address `a` up. -/
def memWriteAll : RecordMemory → Nat → List Word → RecordMemory
  | m, _, [] => m
  | m, a, w :: ws => memWriteAll (memWrite m a w) (a + 1) ws

/-- The memory with the `n` addresses from `a` up unlisted. -/
def memErase (m : RecordMemory) (a n : Nat) : RecordMemory :=
  m.filter fun c => !(a ≤ c.1 && c.1 < a + n)

/-- Whether every address of the memory lies above `lo` and none holds the default word, addresses rising. -/
def memWfFrom : Option Nat → RecordMemory → Bool
  | _, [] => true
  | lo, (k, w) :: rest =>
    (match lo with
      | none => true
      | some l => decide (l < k)) && w != memDefault && memWfFrom (some k) rest

/-- The canonical form of the record memory: addresses strictly rising, and no entry equal to what an unlisted address reads as. -/
def memWf (m : RecordMemory) : Bool := memWfFrom none m

/-- The address of a word of a slot of a bank, numbered as CURSOR numbers it (R171). -/
def cellAddr (bank : Fin 8) (slot word : Nat) : Nat := bank.val * 1024 + slot * 16 + word

/-- The 16 words of a slot. -/
def readSlot (m : RecordMemory) (bank : Fin 8) (slot : Nat) : List Word :=
  (List.range 16).map fun i => memRead m (cellAddr bank slot i)

/-- The memory with a slot's words replaced. -/
def writeSlot (m : RecordMemory) (bank : Fin 8) (slot : Nat) (ws : List Word) : RecordMemory :=
  memWriteAll m (cellAddr bank slot 0) ws

/-- The lowest-numbered bank whose state satisfies `p`. -/
def firstBank (p : BankState → Bool) (b : Oct Bank) : Option (Fin 8) :=
  if p b.c0.st then some 0 else if p b.c1.st then some 1 else if p b.c2.st then some 2 else if p b.c3.st then some 3
  else if p b.c4.st then some 4 else if p b.c5.st then some 5 else if p b.c6.st then some 6 else if p b.c7.st then some 7
  else none

/-- The OPEN bank, if any (R157: there is at most one). -/
def openBank (s : State) : Option (Fin 8) := firstBank (fun b => b == .openBank) s.brs.banks

/-- The bank that carries the settlement mark, if any. -/
def settlingBank (s : State) : Option (Fin 8) := firstBank (fun b => b == .settling) s.brs.banks

/-- The session number a bank's summary holds (R173). -/
def bankSession (s : State) (bank : Fin 8) : Nat := (memRead s.brs.mem (cellAddr bank 0 0)).toNat

/-- The session number of the OPEN bank, if a bank is OPEN. -/
def openSession (s : State) : Option Nat := (openBank s).map (bankSession s)

/-! ### Views that several blocks read -/

/-- STARTING, TRANSFER or HOLD. -/
def Session.isLive : Session → Bool
  | .starting | .transfer | .hold => true
  | _ => false

/-- STARTING, TRANSFER, HOLD or STOPPING: a session is open (R31). -/
def Session.isOpen : Session → Bool
  | .starting | .transfer | .hold | .stopping => true
  | _ => false

/-- The states in which the hold set is kept (R15). -/
def Session.keepsHolds : Session → Bool
  | .unplugged | .linking => false
  | _ => true

/-- The states in which the metered channels are held ACTIVE (R110). -/
def Session.holdsChannels : Session → Bool
  | .checking | .starting | .transfer | .hold | .stopping => true
  | _ => false

/-- A running cycle, from SETTLE_A to AVERAGE_B, which holds the rail channels and VBUS ACTIVE (R72, R110). -/
def CycleState.isCycle : CycleState → Bool
  | .settleA | .averageA | .settleB | .averageB => true
  | _ => false

/-- The averaging states, in which the quiet window is open (R71). -/
def CycleState.isAveraging : CycleState → Bool
  | .averageA | .averageB => true
  | _ => false

/-- Switch A output (R71): closed in SETTLE_A and AVERAGE_A. -/
def CycleState.switchA : CycleState → Bool
  | .settleA | .averageA => true
  | _ => false

/-- Switch B output (R71): closed in SETTLE_B and AVERAGE_B. -/
def CycleState.switchB : CycleState → Bool
  | .settleB | .averageB => true
  | _ => false

/-- Whether a channel is held ACTIVE (R110): VISO_P, VISO_N and VBUS by a running cycle, channels 0 to 5 by the session. -/
def channelHeld (s : State) (c : Fin 8) : Bool :=
  (decide (c.val < 6) && s.csc.session.holdsChannels)
    || ((c == chVbus || c == chVisoP || c == chVisoN) && s.imn.st.isCycle)

/-- The effective mode of a channel (R110). -/
def effectiveMode (s : State) (c : Fin 8) : ChannelMode :=
  if channelHeld s c then .active else s.asm.standby.get c

/-- Whether a standby request is pending (R110): LIGHT or DEEP asked of a held channel. DEDUCED, unsafe (log entry 23). -/
def standbyPending (s : State) (c : Fin 8) : Bool :=
  channelHeld s c && s.asm.standby.get c != .active

/-- Whether a substitution is active (R121). -/
def SubstState.isActive : SubstState → Bool
  | .off => false
  | _ => true

/-- An offer is valid (R5): maximum above 0 and not below its minimum. -/
def Offer.valid (o : Offer) : Bool := decide (0 < o.max) && decide (o.min ≤ o.max)

/-- The offer in force is present and valid (R5). -/
def offerValid (s : State) : Bool :=
  match s.csc.offer with
  | none => false
  | some o => o.valid

/-- The power request handed to the Charge Allocator (R94). -/
def heaterRequest (b : Bhc) : Nat :=
  if b.mode = .plugged && (b.st = .wait || b.st = .heating || b.st = .quiet) && b.waits.onlyGrantZero then b.demand else 0

/-- Cents of a tick counter, half a cent rounded up (R138). -/
def cents (ticks : Nat) : Nat := (ticks + 50000) / 100000

/-- The session set read for session number `n` (R141): zero in every field unless `n` owns it. -/
def sessionSetFor (s : State) (n : Nat) : SessionSet :=
  if s.mtr.sess.owner = some n then s.mtr.sess else .clear none

/-- A band is in a mask (R149, R152). -/
def inMask (mask : BitVec 4) (b : Band) : Bool := mask.getLsbD b.val

end Sys2Proof.Machine
end

