-- ==== Sys2Proof/Machine/Records.lean ====
section
/-! DEFINITION. The Billing Record Store (chapter 9): opening, interval and event records, summaries, settlement, closing,
retirement, unrecorded totals and cursors. -/
namespace Sys2Proof.Machine

/-! ### Layouts (R173) -/

/-- Bit 16 of a second of day. -/
def secondHigh (second : Nat) : Nat := second / 65536 % 2

/-- The upper four bits of four band Wh counts, band b in bits 4b to 4b + 3. -/
def bandUppers (q : Quad Acc) : Nat :=
  q.b0.wh / 65536 % 16 + 16 * (q.b1.wh / 65536 % 16) + 256 * (q.b2.wh / 65536 % 16) + 4096 * (q.b3.wh / 65536 % 16)

/-- An event record of kind `kind` with its fields in words 3 to 7, stamped with the clock (R163, R173). -/
def eventWords (t : Ttc) (kind : Nat) (w3 w4 w5 w6 w7 : Word) : List Word :=
  [natWord (2 * 4096 + 256 * secondHigh t.second + kind), natWord t.day, natWord t.second, w3, w4, w5, w6, w7,
   0, 0, 0, 0, 0, 0, 0, 0]

/-- An interval record (R160, R161, R173). -/
def intervalWords (v : Interval) (part fin : Bool) : List Word :=
  [natWord (4096 + 1024 * secondHigh v.second + 256 * v.band.val + boolNat v.timeUnset + 2 * boolNat v.disagree
      + 4 * boolNat v.single + 8 * boolNat v.hasGaps + 16 * boolNat part + 32 * boolNat fin),
   natWord v.day, natWord v.second, natWord v.periods, natWord (v.traction / 65536), natWord v.traction,
   natWord (v.heating / 65536), natWord v.heating, natWord v.imp, natWord v.exp, natWord v.slipDrops, natWord v.slipRepeats,
   natWord v.gaps, natWord v.barrierGaps,
   (match v.minInsulation with
     | none => absentWord
     | some m => natWord m),
   natWord v.peakSetpoint]

/-- Word 9 of summary slot 0: high bits, flags and close reason. -/
def summaryWord9 (startHigh : Bool) (w : Working) : Word :=
  natWord (32768 * boolNat startHigh
    + 16384 * (match w.endTime with
        | none => 1
        | some t => secondHigh t.second)
    + 256 * boolNat w.truncated + 512 * boolNat w.timeUnset + 1024 * boolNat w.disagree + 2048 * boolNat w.tariffChanged
    + 4096 * boolNat w.unclean + w.reason)

/-- Word 10 of summary slot 0: version at open and at close. -/
def summaryWord10 (versionOpen : Nat) (w : Working) : Word :=
  natWord (256 * versionOpen
    + (match w.closeVersion with
        | none => 255
        | some v => v))

/-- Summary slot 0 as a rewrite leaves it: `old` gives the words kept from the opening (R162). -/
def summaryWords0 (old : Nat → Word) (w : Working) (d : SessionSet) : List Word :=
  [old 0, old 1, old 2, natWord (w.ref.toNat / 65536), natWord w.ref.toNat, old 5, old 6,
   (match w.endTime with
     | none => absentWord
     | some t => natWord t.day),
   (match w.endTime with
     | none => absentWord
     | some t => natWord t.second),
   summaryWord9 ((old 9).getLsbD 15) w, summaryWord10 ((old 10).toNat / 256) w,
   natWord (d.net.imp / 65536), natWord d.net.imp, natWord (d.dcOut.wh / 65536), natWord d.dcOut.wh, natWord d.net.exp]

/-- Summary slot 0 with only the Wh fields rewritten. -/
def summaryWordsKept (old : Nat → Word) (d : SessionSet) : List Word :=
  [old 0, old 1, old 2, old 3, old 4, old 5, old 6, old 7, old 8, old 9, old 10,
   natWord (d.net.imp / 65536), natWord d.net.imp, natWord (d.dcOut.wh / 65536), natWord d.dcOut.wh, natWord d.net.exp]

/-- Summary slot 1 as a rewrite leaves it (R162). -/
def summaryWords1 (d : SessionSet) : List Word :=
  [natWord d.traction.b0.wh, natWord d.traction.b1.wh, natWord d.traction.b2.wh, natWord d.traction.b3.wh,
   natWord d.heating.b0.wh, natWord d.heating.b1.wh, natWord d.heating.b2.wh, natWord d.heating.b3.wh,
   natWord (bandUppers d.traction), natWord (bandUppers d.heating),
   natWord (cents d.tractionTicks / 65536), natWord (cents d.tractionTicks),
   natWord (cents d.heatingTicks / 65536), natWord (cents d.heatingTicks),
   natWord (d.heaterDc.wh / 65536), natWord d.heaterDc.wh]

/-! ### Writing records -/

/-- Set a bank's state. -/
def setBankState (bank : Fin 8) (st : BankState) (s : State) : State :=
  s.modBrs fun r => { r with banks := r.banks.set bank { r.banks.get bank with st := st } }

/-- Set summary flags of a bank (R162): in the working fields that were made for it; for a marked bank that
settles after the next session's opening, in its own summary. DEDUCED, unsafe (log entry 24). -/
def Brs.setFlags (r : Brs) (bank : Fin 8) (truncated timeUnset disagree : Bool) : Brs :=
  if r.workBank = some bank then
    { r with
      work := { r.work with
        truncated := r.work.truncated || truncated
        timeUnset := r.work.timeUnset || timeUnset
        disagree := r.work.disagree || disagree } }
  else
    let a := cellAddr bank 0 9
    { r with
      mem := memWrite r.mem a (memRead r.mem a
        ||| natWord (256 * boolNat truncated + 512 * boolNat timeUnset + 1024 * boolNat disagree)) }

/-- Write a record to the bank's next slot, or drop it with TRUNCATED when slot 63 has been used (R161, R163). -/
def appendRecord (bank : Fin 8) (ws : List Word) (s : State) : State :=
  s.modBrs fun r =>
    let n := (r.banks.get bank).next
    if n < 64 then
      { r with mem := writeSlot r.mem bank n ws, banks := r.banks.set bank { r.banks.get bank with next := n + 1 } }
    else r.setFlags bank true false false

/-- Rewrite both summary slots of a bank (R162). Where the working fields were made for another bank since (a marked bank that
settles after the next session's opening), the words that come from them are kept as the bank's close and `Brs.setFlags` wrote
them. -/
def rewriteSummary (bank : Fin 8) (s : State) : State :=
  let d := sessionSetFor s (bankSession s bank)
  s.modBrs fun r =>
    let old := fun i => memRead r.mem (cellAddr bank 0 i)
    { r with
      mem := writeSlot (writeSlot r.mem bank 0
          (if r.workBank = some bank then summaryWords0 old r.work d else summaryWordsKept old d))
        bank 1 (summaryWords1 d) }

/-- Close the open interval into a bank: the interval record, the summary rewrite, and an empty interval (R161). -/
def closeInterval (bank : Fin 8) (part fin : Bool) (s : State) : State :=
  (rewriteSummary bank (appendRecord bank (intervalWords s.brs.interval part fin) s)).modBrs
    fun r => { r with interval := .empty }

/-- Hand the store an event record: written while a bank is OPEN, else discarded (R163). -/
def handRecord (kind : Nat) (w3 w4 w5 w6 w7 : Word) (s : State) : State :=
  match openBank s with
  | none => s
  | some b => appendRecord b (eventWords s.ttc kind w3 w4 w5 w6 w7) s

/-- HOLD_ENTER (1) or HOLD_LEAVE (2) with the reason code (R15, R163). -/
def recordHold (enter : Bool) (r : HoldReason) (s : State) : State :=
  handRecord (if enter then 1 else 2) (natWord r.code) 0 0 0 0 s

/-- TARIFF_CHANGE with the new version; it also sets the working flag TARIFF_CHANGED (R151, R162, R163). -/
def recordTariff (s : State) : State :=
  match openBank s with
  | none => s
  | some _ =>
    handRecord 4 (natWord s.ttc.version) 0 0 0 0 (s.modBrs fun r => { r with work := { r.work with tariffChanged := true } })

/-- INSULATION with verdict, cause and minimum (R89, R163). -/
def recordInsulation (v : Verdict) (c : Cause) (minimum : Nat) (s : State) : State :=
  handRecord 5 (natWord v.code) (natWord c.code) (natWord minimum) 0 0 s

/-- HEATER_LOCKOUT with the cause (R103, R163). -/
def recordLockout (c : LockCause) (s : State) : State := handRecord 6 (natWord c.code) 0 0 0 0 s

/-- LINK_LOSS (7) or LINK_RESTORED (8) (R113, R163). -/
def recordLink (up : Bool) (s : State) : State := handRecord (if up then 8 else 7) 0 0 0 0 0 s

/-- STATION_STOP with the station's reason byte (R22, R163). -/
def recordStationStop (reason : Byte) (s : State) : State := handRecord 9 (reason.setWidth 16) 0 0 0 0 s

/-- A time step handed by the Tariff Table and Clock (R164): the open interval closes as a partial one, then TIME_STEP is written. -/
def takeTimeStep (old new : ClockTime) (s : State) : State :=
  match openBank s with
  | none => s
  | some b =>
    let s := if 0 < s.brs.interval.periods then closeInterval b true false s else s
    handRecord 3 (natWord old.day) (natWord old.second) (natWord new.day) (natWord new.second)
      (natWord (2 * secondHigh old.second + secondHigh new.second)) s

/-- A cycle minimum handed by the Insulation Monitor (R88, R160). -/
def takeMinimum (m : Nat) (s : State) : State :=
  match openBank s with
  | none => s
  | some _ =>
    s.modBrs fun r =>
      { r with interval := { r.interval with minInsulation := some (match r.interval.minInsulation with
                                                                     | none => m
                                                                     | some k => min k m) } }

/-- A present setpoint handed by the Charge Allocator (R42, R160). -/
def takeSetpoint (x : Nat) (s : State) : State :=
  match openBank s with
  | none => s
  | some _ => s.modBrs fun r => { r with interval := { r.interval with peakSetpoint := max r.interval.peakSetpoint x } }

/-! ### Opening a bank (R157, R158) -/

/-- Whether a CLOSED bank, marked or not, holds session number `n` in its summary. -/
def numberHeld (s : State) (n : Nat) : Bool :=
  let held (b : Fin 8) : Bool :=
    ((s.brs.banks.get b).st == .closed || (s.brs.banks.get b).st == .settling) && bankSession s b == n
  held 0 || held 1 || held 2 || held 3 || held 4 || held 5 || held 6 || held 7

/-- The session number after `n`: 65,535 is followed by 1. -/
def nextNumber (n : Nat) : Nat := if n = 65535 then 1 else n + 1

/-- The first of at most `fuel` candidates from `n` on that no CLOSED bank holds. -/
def findNumber (s : State) : Nat → Nat → Nat
  | 0, n => n
  | fuel + 1, n => if numberHeld s n then findNumber s fuel (nextNumber n) else n

/-- The session number the next opened bank takes: the search ends within eight candidates. -/
def nextSession (s : State) : Nat := findNumber s 8 (nextNumber s.brs.counter)

/-- Summary slot 0 at the opening (R158). -/
def openingWords (t : Ttc) (account identity : Word) (ref : BitVec 32) (number : Nat) : List Word :=
  [natWord number, account, identity, natWord (ref.toNat / 65536), natWord ref.toNat, natWord t.day, natWord t.second,
   absentWord, absentWord, summaryWord9 (secondHigh t.second == 1) (.clear ref), summaryWord10 t.version (.clear ref),
   0, 0, 0, 0, 0]

/-- Open bank `b` (R158). The one open interval is emptied also where a marked bank that has not settled kept it (R165).
DEDUCED, unsafe (log entry 24). -/
def setUpBank (b : Fin 8) (identity : Word) (ref : BitVec 32) (s : State) : State :=
  let number := nextSession s
  s.modBrs fun r =>
    { r with
      mem := writeSlot (writeSlot (memErase r.mem (cellAddr b 0 0) 1024) b 0 (openingWords s.ttc r.account identity ref number))
        b 1 (List.replicate 16 0)
      banks := r.banks.set b ⟨.openBank, 2⟩
      counter := number
      interval := .empty
      work := .clear ref
      workBank := some b }

/-- The store's answer to a bank request (R157). -/
inductive BankAnswer where
  | opened
  | refused
  | unrecorded
  deriving DecidableEq, Repr

/-- The answer a bank request would get now (R157). -/
def bankAnswer (s : State) : BankAnswer :=
  if (firstBank (fun b => b == .free) s.brs.banks).isSome then .opened
  else if s.brs.proceed then .unrecorded else .refused

/-- The store's actions on a bank request (R157). -/
def requestBank (identity : Word) (ref : BitVec 32) (s : State) : State :=
  match firstBank (fun b => b == .free) s.brs.banks with
  | some b => setUpBank b identity ref s
  | none =>
    raiseFp .recordSpace
      (if s.brs.proceed then
        s.modBrs fun r => { r with unrecordedSessions := min 65535 (r.unrecordedSessions + 1) }
       else s)

/-! ### Period results (R159, R160, R166, R170) -/

/-- Whether a result closes the open interval before it is added (R159). -/
def endsInterval (v : Interval) (p : PeriodResult) : Bool :=
  decide (0 < v.periods)
    && (if p.timeUnset then decide (900 ≤ v.periods) else p.second % 900 == 0)

/-- A count that stays at 65,535. -/
def addCapped (a b : Nat) : Nat := min 65535 (a + b)

/-- The open interval after a result is taken into it (R160). -/
def Interval.add (v : Interval) (p : PeriodResult) : Interval :=
  { v with
    day := if v.periods = 0 then p.day else v.day
    second := if v.periods = 0 then p.second else v.second
    band := if v.periods = 0 then p.band else v.band
    periods := addCapped v.periods 1
    traction := v.traction + p.carried.traction
    heating := v.heating + p.carried.heating
    imp := addCapped v.imp p.carried.imp
    exp := addCapped v.exp p.carried.exp
    slipDrops := addCapped v.slipDrops p.slipDrops
    slipRepeats := addCapped v.slipRepeats p.slipRepeats
    gaps := addCapped v.gaps p.gaps
    barrierGaps := addCapped v.barrierGaps p.barrierGaps
    timeUnset := v.timeUnset || p.timeUnset
    disagree := v.disagree || p.disagree
    single := v.single || p.single
    hasGaps := v.hasGaps || decide (0 < p.gaps) }

/-- Take a result of a bank's session into the open interval (R159, R160, R162). -/
def addResult (b : Fin 8) (p : PeriodResult) (s : State) : State :=
  (if endsInterval s.brs.interval p then closeInterval b false false s else s).modBrs fun r =>
    { r with interval := r.interval.add p }.setFlags b false p.timeUnset p.disagree

/-- Settle a marked bank: its last interval, its last summary, the mark cleared, RECORD raised (R166, R167).
DEDUCED, unsafe (log entry 24). -/
def settle (b : Fin 8) (s : State) : State :=
  raiseFp .record (setBankState b .closed
    (rewriteSummary b (if 0 < s.brs.interval.periods then closeInterval b true true s else s)))

/-- Settle every marked bank, at most `fuel` of them, lowest first; a period result that belongs to the bank is added first. -/
def settleAll (p : Option PeriodResult) : Nat → State → State
  | 0, s => s
  | fuel + 1, s =>
    match settlingBank s with
    | none => s
    | some b =>
      settleAll p fuel (settle b
        (match p with
          | none => s
          | some q => if q.route = .session (bankSession s b) then addResult b q s else s))

/-- Add the unrecorded import Wh a result of route UNRECORDED carries (R159, R170). -/
def addUnrecorded (p : PeriodResult) (s : State) : State :=
  match p.route with
  | .unrecorded => s.modBrs fun r => { r with unrecordedImport := (r.unrecordedImport + p.carried.unrecorded) % 4294967296 }
  | _ => s

/-- Take a result into the OPEN bank, if it belongs to its session (R159). -/
def addToOpen (p : PeriodResult) (s : State) : State :=
  match openBank s with
  | none => s
  | some b => if p.route = .session (bankSession s b) then addResult b p s else s

/-- The store takes a period result: unrecorded Wh, settlement of a marked bank, the OPEN bank. -/
def recordsTakeResult (p : PeriodResult) (s : State) : State :=
  addToOpen p (settleAll (some p) 8 (addUnrecorded p s))

/-! ### Closing a bank (R165, R167, R168) -/

/-- Set end time, close reason and version at close from the clock and the table in force. -/
def stampClose (reason : Nat) (s : State) : State :=
  s.modBrs fun r =>
    { r with work := { r.work with endTime := some ⟨s.ttc.day, s.ttc.second⟩, reason := reason, closeVersion := some s.ttc.version } }

/-- Close the OPEN bank with the stop reason recorded: with the settlement mark (R165), or at once for SUPPLY_LOSS (R167). -/
def closeBank (reason : Option StopReason) (s : State) : State :=
  match openBank s with
  | none => s
  | some b =>
    if reason = some .supplyLoss then settle b (stampClose (stopCode reason) s)
    else setBankState b .settling (rewriteSummary b (stampClose (stopCode reason) s))

/-- The supply-fail warning settles a marked bank at once (R167). -/
def settleNow (s : State) : State := settleAll none 8 s

/-- Word 9 of a summary with UNCLEAN set, and the close reason POWER_LOSS where the bank was OPEN (R168). -/
def uncleanWord (wasOpen : Bool) (w : Word) : Word :=
  (if wasOpen then (w &&& 0xFFF0) ||| natWord powerLossCode else w) ||| 0x1000

/-- Examine one bank at power-on (R168). -/
def examineBank (b : Fin 8) (r : Brs) : Brs :=
  let mark (wasOpen : Bool) : Brs :=
    { r with
      mem := memWrite r.mem (cellAddr b 0 9) (uncleanWord wasOpen (memRead r.mem (cellAddr b 0 9)))
      banks := r.banks.set b { r.banks.get b with st := .closed } }
  match (r.banks.get b).st with
  | .openBank => mark true
  | .settling => mark false
  | _ => r

/-- Whether the examination closes or clears some bank, so that RECORD is raised (R168). -/
def examinationRecords (r : Brs) : Bool :=
  (firstBank (fun b => b == .openBank || b == .settling) r.banks).isSome

/-- The store after power-on (R155, R168, R169): banks examined, working memory, cursors and RETIRE_BANK at their values. -/
def Brs.afterPowerOn (r : Brs) : Brs :=
  let r := examineBank 7 (examineBank 6 (examineBank 5 (examineBank 4 (examineBank 3 (examineBank 2 (examineBank 1 (examineBank 0 r)))))))
  { r with interval := .empty, work := .clear 0xFFFFFFFF, workBank := none, vpCursor := .reset, fpCursor := .reset, copy := none, retireBank := 0 }

/-! ### Retiring a bank (R169) -/

/-- The refusal a RETIRE with value `v` meets, if any. -/
def retireRefusal (s : State) (v : Word) : Option WriteRefusal :=
  match (s.brs.banks.get s.brs.retireBank).st with
  | .closed => if bankSession s s.brs.retireBank = v.toNat then none else some .mismatch
  | .settling => some .busy
  | .openBank => some .badState
  | .free => some .badState

/-- Free a bank: every slot unwritten, next slot 2. -/
def freeBank (b : Fin 8) (s : State) : State :=
  s.modBrs fun r => { r with mem := memErase r.mem (cellAddr b 0 0) 1024, banks := r.banks.set b ⟨.free, 2⟩ }

/-! ### Unrecorded totals (R170) -/

/-- Take the unrecorded read copy. -/
def takeUnrecordedCopy (s : State) : State :=
  s.modBrs fun r => { r with copy := some ⟨r.unrecordedImport, r.unrecordedSessions⟩ }

/-- Clear the totals by what was copied, or wholly when no copy is present. -/
def clearUnrecorded (s : State) : State :=
  s.modBrs fun r =>
    match r.copy with
    | some c =>
      { r with
        unrecordedImport := (r.unrecordedImport + 4294967296 - c.imp) % 4294967296
        unrecordedSessions := r.unrecordedSessions - c.sessions
        copy := none }
    | none => { r with unrecordedImport := 0, unrecordedSessions := 0 }

/-! ### Cursors (R171) -/

/-- The cursor of a port. -/
def cursorOf (p : Port) (r : Brs) : Cursor :=
  match p with
  | .vp => r.vpCursor
  | .fp => r.fpCursor

/-- Replace the cursor of a port. -/
def setCursor (p : Port) (c : Cursor) (s : State) : State :=
  match p with
  | .vp => s.modBrs fun r => { r with vpCursor := c }
  | .fp => s.modBrs fun r => { r with fpCursor := c }

/-- The cursor CURSOR_SET with value `v` leaves: bank × 64 + slot, above 511 clamped to 511, word 0, latch empty. -/
def cursorFor (v : Word) : Cursor :=
  let n := min 511 v.toNat
  { bank := ⟨n / 64, by omega⟩, slot := n % 64, word := 0, latch := none }

/-- The slot latch a read of RECORD_WORD serves from: the slot as it stands when the word is 0, else what was latched. -/
def latchFor (m : RecordMemory) (c : Cursor) : Option (List Word) :=
  if c.word = 0 then some (readSlot m c.bank c.slot) else c.latch

/-- The word a read of RECORD_WORD returns. -/
def recordWordOf (m : RecordMemory) (c : Cursor) : Word :=
  match latchFor m c with
  | none => absentWord
  | some ws => ws.getD c.word absentWord

/-- The cursor after a read of RECORD_WORD: latched, and one word further. -/
def cursorAfterRead (m : RecordMemory) (c : Cursor) : Cursor :=
  if c.word = 15 then { c with latch := latchFor m c, word := 0, slot := (c.slot + 1) % 64 }
  else { c with latch := latchFor m c, word := c.word + 1 }

end Sys2Proof.Machine
end

