-- ==== Sys2Proof/Machine/Heater.lean ====
section
/-! DEFINITION. The Battery Heater Controller (chapter 5), without the disturbance notices it hands over and without the port
words that command it. The functions on `Bhc` are its own moves; the functions on `State` add what they hand to other blocks. -/
namespace Sys2Proof.Machine

/-! ### Demand and duty (R94, R97) -/

/-- The demand from the settings and the pack temperature (R94). -/
def demandOf (b : Bhc) : Nat :=
  match b.packTemp with
  | none => 0
  | some t => if b.target ≤ t then 0 else min b.maxPower ((b.target - t) * b.gain).toNat

/-- Full-conduction power of the element in watts (R97). -/
def fullPower (b : Bhc) : Nat := (b.vbus * b.vbus).toNat / (250 * b.resistance)

/-- The duty of the grant and VBUS_mean in force (R97). -/
def dutyFor (b : Bhc) : Nat :=
  if b.vbus < Config.lowBus ∨ b.grant = 0 then 0 else min 1024 (ceilDiv (b.grant * 1024) (fullPower b))

/-- Recompute the duty; the grant used becomes the duty grant, 0 with duty 0, and raises the period's peak (R97, R102). -/
def Bhc.recomputeDuty (b : Bhc) : Bhc :=
  let d := dutyFor b
  let g := if d = 0 then 0 else b.grant
  { b with duty := d, dutyGrant := g, peakGrant := max b.peakGrant g }

/-- Duty and duty grant 0 (R97). -/
def Bhc.zeroDuty (b : Bhc) : Bhc := { b with duty := 0, dutyGrant := 0 }

/-! ### State evaluation (R98, R99, R100) -/

/-- Whether the contactor may close: neither the quiet window is open nor the isolation hold set (R99, R100). -/
def Bhc.mayClose (b : Bhc) : Bool := !b.quiet && !b.isolationHold

/-- The first condition of R98. -/
def Bhc.mustBeOff (b : Bhc) (supplyFail : Bool) : Bool := b.mode == .none || b.demand == 0 || supplyFail

/-- To OFF: duty 0, contactor open. -/
def Bhc.toOff (b : Bhc) : Bhc := { b.zeroDuty with st := .off, contactor := false }

/-- HEATING or QUIET to WAIT: duty 0, contactor as it is. -/
def Bhc.toWait (b : Bhc) : Bhc := { b.zeroDuty with st := .wait }

/-- The state evaluation of R98, with the deferrals of R99 and R100 and QUIET's moves of R99. `atGrant` says that the event is a
grant update. A heater in its unlock test stays in WAIT (R104).
Not applied while the unlock test stands: DEDUCED, unsafe (log entry 21). -/
def Bhc.evaluate (b : Bhc) (supplyFail atGrant : Bool) : Bhc :=
  match b.st with
  | .off =>
    if b.mustBeOff supplyFail || !b.mayClose then b
    else if b.waits.any || !atGrant then { b with st := .wait, contactor := true, waits := { b.waits with grantZero := true } }
    else { b with st := .wait, contactor := true }
  | .wait =>
    if b.waits.unlockTest then b
    else if b.mustBeOff supplyFail then b.toOff
    else if b.waits.any || !atGrant || !b.mayClose then b
    else { b with st := .heating }.recomputeDuty
  | .heating =>
    if b.mustBeOff supplyFail then b.toOff
    else if b.waits.any then b.toWait
    else if atGrant then b.recomputeDuty
    else b
  | .quiet =>
    if b.mustBeOff supplyFail then b.toOff
    else if b.waits.any then b.toWait
    else b
  | _ => b

/-! ### Grant updates and modes (R95, R96) -/

/-- A grant update with grant `g` (R96); LOCKED_OUT ignores it (R103). -/
def Bhc.grantUpdate (b : Bhc) (supplyFail : Bool) (g : Nat) : Bhc :=
  let b := { b with demand := demandOf b }
  if b.st = .lockedOut then b
  else { b with grant := g, waits := { b.waits with grantZero := g == 0 } }.evaluate supplyFail true

/-- A heater grant handed over by the Charge Allocator: a grant update in PLUGGED mode (R96). -/
def Bhc.takeGrant (b : Bhc) (supplyFail : Bool) (g : Nat) : Bhc :=
  if b.mode = .plugged then b.grantUpdate supplyFail g else b

/-- Set the mode: BAND goes when it leaves PLUGGED, the run timer when it leaves PARKED (R95, R98). -/
def Bhc.setMode (b : Bhc) (m : HeaterMode) : Bhc :=
  { b with
    mode := m
    waits := { b.waits with band := if m = .plugged then b.waits.band else false }
    runT := if m = .parked then b.runT else none }

/-- The mode becomes PLUGGED: the grant in force stays while the allocation timer runs, else a grant update of 0 (R96). -/
def Bhc.becomePlugged (b : Bhc) (supplyFail timerRuns : Bool) : Bhc :=
  let b := b.setMode .plugged
  if timerRuns then b.evaluate supplyFail false else b.grantUpdate supplyFail 0

/-- A parked run becomes absent: the mode is PLUGGED if the plug is present and NONE otherwise (R95). -/
def Bhc.endRun (b : Bhc) (plug supplyFail timerRuns : Bool) : Bhc :=
  if b.run.isNone then b
  else if plug then { b with run := none }.becomePlugged supplyFail timerRuns
  else ({ b with run := none }.setMode .none).evaluate supplyFail false

/-- HEAT_STOP (R105): with a run present it ends the run, and a QUIET heater enters OFF, plugged or not (R99). DESIGN CHOICE,
unsafe (log entry 36). -/
def Bhc.heatStop (b : Bhc) (plug supplyFail timerRuns : Bool) : Bhc :=
  (if b.run.isSome ∧ b.st = .quiet then b.toOff else b).endRun plug supplyFail timerRuns

/-- Plug detect rises (R95, R106). -/
def Bhc.plugRise (b : Bhc) (supplyFail timerRuns : Bool) : Bhc :=
  let b := if b.st = HeaterState.spent then { b with st := .off } else b
  if b.mode = .parked then b.evaluate supplyFail false else b.becomePlugged supplyFail timerRuns

/-- Plug detect falls (R95). -/
def Bhc.plugFall (b : Bhc) (supplyFail : Bool) : Bhc :=
  if b.mode = .plugged then (b.setMode .none).evaluate supplyFail false else b

/-- The session enters TRANSFER (R95, R106): a parked run ends, and a SPENT heater returns to OFF. -/
def Bhc.enterTransfer (b : Bhc) (supplyFail timerRuns : Bool) : Bhc :=
  let b := if b.mode = .parked then { b with run := none }.becomePlugged supplyFail timerRuns else b
  if b.st = .spent then { b with st := .off }.evaluate supplyFail false else b

/-- Start or replace a parked run (R105). -/
def Bhc.startRun (b : Bhc) (supplyFail : Bool) : Bhc :=
  let b := { b with
    run := some ⟨b.allowance, b.cap, 0⟩
    spentPending := false
    st := if b.st = HeaterState.spent then HeaterState.off else b.st }
  { b.setMode .parked with runT := some Config.runMs }.evaluate supplyFail false

/-- The run timer expires in PARKED mode: the grant is min(demand, run cap) (R96). -/
def Bhc.runExpiry (b : Bhc) (supplyFail : Bool) : Bhc :=
  match b.run with
  | none => b
  | some r => { b with runT := some Config.runMs }.grantUpdate supplyFail (min (demandOf b) r.cap)

/-! ### Lockout (R103) -/

/-- The lockout cause held after a lockout with cause `c` (R103 step 2). -/
def lockCauseAfter (held c : LockCause) : LockCause :=
  match held with
  | .none => c
  | .heater => .heater
  | .overcurrent => if c = .heater then .heater else .overcurrent
  | .overdraw => if c = .heater then .heater else .overdraw

/-- A lockout's effect on the heater itself (R103 steps 1 to 4). -/
def Bhc.lockout (b : Bhc) (c : LockCause) (plug : Bool) : Bhc :=
  let b := { b.zeroDuty with
    contactor := false
    grant := 0
    st := .lockedOut
    lockCause := lockCauseAfter b.lockCause c
    waits := { b.waits with unlockTest := false }
    overdraw := 0
    spentPending := false
    unlockDue := false }
  if b.run.isNone then b else { b with run := none }.setMode (if plug then .plugged else .none)

/-- A lockout with cause `c` (R103): a cause recorded or replaced is handed to the store, and HEATER is raised. -/
def lockHeater (c : LockCause) (s : State) : State :=
  let s' := s.modBhc fun b => b.lockout c s.pins.plug
  raiseVp .heater (if s'.bhc.lockCause = s.bhc.lockCause then s' else recordLockout s'.bhc.lockCause s')

/-! ### Quiet window (R99) -/

/-- The quiet window opens: a HEATING heater enters QUIET. -/
def Bhc.windowOpens (b : Bhc) : Bhc :=
  { b with quiet := true, st := if b.st = .heating then .quiet else b.st }

/-- The contactor of a heater in its unlock test closes when it may (R100, R104). -/
def Bhc.closeForTest (b : Bhc) : Bhc :=
  if b.st = .wait ∧ b.waits.unlockTest ∧ b.mayClose then { b with contactor := true } else b

/-- The quiet window closes: QUIET returns to HEATING with a recomputed duty, deferred moves are taken, R98 is applied. -/
def Bhc.windowCloses (b : Bhc) (supplyFail : Bool) : Bhc :=
  let b := { b with quiet := false }
  let b := if b.st = .quiet then { b with st := .heating }.recomputeDuty else b
  b.closeForTest.evaluate supplyFail false

/-- The UNLOCK request that waited is made once the contactor is closed (R104). -/
def requestUnlockIfDue (s : State) : State :=
  if s.bhc.unlockDue && s.bhc.contactor then
    (s.modBhc fun b => { b with unlockDue := false }).modImn fun m => { m with unlockPending := true }
  else s

/-! ### Isolation (R100) -/

/-- An isolation request. -/
def Bhc.isolate (b : Bhc) : Bhc :=
  match b.st with
  | .wait | .heating | .quiet =>
    { b.zeroDuty with st := .isolated, contactor := false, isolationT := some Config.isolationMs, isolationHold := true }
  | _ => { b with isolationHold := true }

/-- Whether an isolation request is confirmed at once: the contactor is already open in OFF, SPENT and LOCKED_OUT. -/
def Bhc.confirmsAtOnce (b : Bhc) : Bool :=
  b.st == .off || b.st == .spent || b.st == .lockedOut

/-- A release: ISOLATED returns to WAIT, or to SPENT when the SPENT pending flag is set. -/
def Bhc.release (b : Bhc) (supplyFail : Bool) : Bhc :=
  let b := { b with isolationHold := false }
  match b.st with
  | .isolated =>
    if b.spentPending then { b with st := .spent, spentPending := false, isolationT := none }
    else { b with st := .wait, contactor := true, isolationT := none }.evaluate supplyFail false
  | .off => b.evaluate supplyFail false
  | .wait => b.closeForTest
  | _ => b

/-- The release handed over by the Insulation Monitor. -/
def releaseHeater (s : State) : State :=
  requestUnlockIfDue (s.modBhc fun b => b.release s.pins.supplyFail)

/-- The HEATER branch fault handed over by the Insulation Monitor. -/
def heaterBranchFault (s : State) : State :=
  lockHeater .heater (s.modBhc fun b => { b with isolationHold := false })

/-! ### Unlock (R104) -/

/-- The monitor's answer to an unlock; ignored by a heater no longer in its test. -/
def answerUnlock (passed : Bool) (s : State) : State :=
  if !s.bhc.waits.unlockTest then s
  else if passed then
    raiseVp .heater (s.modBhc fun b =>
      { b with lockCause := .none, waits := { b.waits with unlockTest := false }, unlockDue := false }.evaluate s.pins.supplyFail false)
  else lockHeater .heater s

/-- HEATER_UNLOCK on a lockout with cause HEATER: the unlock test begins. DEDUCED, unsafe (log entry 21). -/
def Bhc.beginTest (b : Bhc) : Bhc :=
  { b with st := .wait, waits := { b.waits with unlockTest := true }, unlockDue := true }.closeForTest

/-- HEATER_UNLOCK on a lockout with another cause: the lockout ends. -/
def Bhc.endLockout (b : Bhc) (supplyFail : Bool) : Bhc :=
  { b with lockCause := .none, st := .off }.evaluate supplyFail false

/-! ### Period results and slots (R101, R102, R106) -/

/-- The overdraw limit in watts (R102). -/
def overdrawLimit (b : Bhc) : Nat := b.peakGrant * 6 / 5 + 200

/-- The overdraw count after a tested period result (R102). -/
def overdrawAfter (b : Bhc) (p : PeriodResult) : Nat :=
  if p.pHtr / (Config.wattSecond : Int) > (overdrawLimit b : Int) then b.overdraw + 1 else 0

/-- The overdraw test (R102). -/
def overdrawTest (p : PeriodResult) (s : State) : State :=
  if p.substituted || p.n == 0 then s
  else
    let k := overdrawAfter s.bhc p
    let s := s.modBhc fun b => { b with overdraw := k }
    if 3 ≤ k then lockHeater .overdraw s else s

/-- The heater after its run has reached its allowance (R106). In WAIT with UNLOCK_TEST the test goes on. DEDUCED, unsafe
(log entry 38). -/
def Bhc.spend (b : Bhc) (plug supplyFail timerRuns : Bool) : Bhc :=
  let b := { b.zeroDuty with
    contactor := false
    st := if b.st = HeaterState.isolated then HeaterState.isolated else HeaterState.spent
    spentPending := b.spentPending || decide (b.st = HeaterState.isolated) }
  b.endRun plug supplyFail timerRuns

/-- The run allowance test (R106). -/
def runAllowanceTest (p : PeriodResult) (s : State) : State :=
  match s.bhc.run with
  | none => s
  | some r =>
    if p.runWh < r.allowance then s.modBhc fun b => { b with run := some { r with wh := p.runWh } }
    else raiseVp .heater (s.modBhc fun b => b.spend s.pins.plug s.pins.supplyFail s.alc.timer.isSome)

/-- The heater takes a period result, notices apart (R97, R102, R106). -/
def heaterTakesResultCore (p : PeriodResult) (s : State) : State :=
  let s := if p.substituted then s else s.modBhc fun b => { b with vbus := p.vbus }
  runAllowanceTest p (overdrawTest p s)

/-- The heater's answer to a falling supply-fail warning (R107), notices apart. -/
def heaterSupplyFailCore (s : State) : State :=
  let s :=
    if s.bhc.waits.unlockTest && (s.bhc.st == .wait || s.bhc.st == .isolated) then lockHeater .heater s
    else s.modBhc fun b => if b.st = .wait ∨ b.st = .heating ∨ b.st = .quiet then b.toOff else b
  s.modBhc fun b => b.endRun s.pins.plug s.pins.supplyFail s.alc.timer.isSome

/-! ### Power-on and restart (R91) -/

/-- The heater after power-on: everything but the resistance rating at its reset value. -/
def Bhc.afterPowerOn (b : Bhc) : Bhc := .reset b.resistance

/-- The heater after a vehicle restart: as after power-on, with the last VBUS_mean kept, and with the wait reason SUBSTITUTION while
the substitution that the restart leaves alone is active (R91, R98). DEDUCED, unsafe (log entry 35). -/
def Bhc.afterRestart (b : Bhc) (substituted : Bool) : Bhc :=
  { Bhc.reset b.resistance with vbus := b.vbus, waits := { (Bhc.reset b.resistance).waits with substitution := substituted } }

end Sys2Proof.Machine
end

