-- ==== Sys2Proof/Machine/Insulation.lean ====
section
/-! DEFINITION. The Insulation Monitor (chapter 4) up to the completions that need the session controller: requests and cycles,
the quiet window, disturbance notices, abandonment, DISABLED, the resistance computation and the judgement. -/
namespace Sys2Proof.Machine

/-! ### Starting a cycle (R72, R74) -/

/-- Whether a request is pending. -/
def Imn.anyPending (m : Imn) : Bool := m.checkPending || m.retestPending || m.unlockPending || m.spacedPending

/-- Enter SETTLE_A or SETTLE_B: the settle timer starts with the settle time in force (R74). -/
def Imn.enterSettle (m : Imn) (st : CycleState) : Imn :=
  { m with st := st, settleT := some m.settleMs, settleReady := false, sumP := 0, sumN := 0, sumV := 0, count := 0 }

/-- Steps 1 to 4 of R72 for a cycle of kind `k`; the hold of step 2 follows the cycle state. -/
def Imn.beginCycle (m : Imn) (k : CycleKind) : Imn :=
  { m with kind := k, restarts := 0, avgA := none, avgB := none, isolatedA := false, isolatedB := false,
           spacingT := some (m.spacingS * 1000) }.enterSettle .settleA

/-- Start the cycle that serves the pending requests (R72). -/
def Imn.startCycle (m : Imn) : Imn :=
  { m with spacedPending := false, servesCheck := m.checkPending, servesRetest := m.retestPending }.beginCycle
    (if m.unlockPending then .unlock else .normal)

/-- In IDLE a pending request starts a cycle at once. -/
def Imn.serveIdle (m : Imn) : Imn := if m.st = .idle ∧ m.anyPending then m.startCycle else m

/-- Enter IDLE (R72, R73): SPACED is cleared outside a live session, then a pending request starts a cycle. -/
def Imn.enterIdle (m : Imn) (live : Bool) : Imn :=
  { m with st := .idle, settleT := none, settleReady := false, spacedPending := m.spacedPending && live }.serveIdle

/-- Enter DISABLED (R77). -/
def Imn.enterDisabled (m : Imn) : Imn :=
  { m with st := .disabled, settleT := none, settleReady := false, spacingT := none, disabledT := some Config.disabledMs }

/-- Leave DISABLED for IDLE (R73, R77). -/
def Imn.leaveDisabled (m : Imn) (live : Bool) : Imn :=
  { m with disabledT := none, spacingT := some (m.spacingS * 1000) }.enterIdle live

/-- The monitor enters IDLE. -/
def imnIdle (s : State) : State := s.modImn fun m => m.enterIdle s.csc.session.isLive

/-! ### Requests (R72) -/

/-- The CSC asks for a fresh cycle (R5). -/
def requestCheck (s : State) : State :=
  s.modImn fun m => if m.checkPending then m else { m with checkPending := true, servesCheck := false }.serveIdle

/-- The CSC withdraws its request (R6). -/
def withdrawCheck (s : State) : State := s.modImn fun m => { m with checkPending := false, servesCheck := false }

/-- VC RETEST (R82): with the latch set it turns the retest on, or restarts its counts, and no cycle that runs counts for it.
DEDUCED, unsafe (log entry 22). -/
def Imn.retestCommand (m : Imn) : Imn :=
  { m with
    retestPending := true
    retest := if m.latch then some ⟨0, 0⟩ else m.retest
    servesRetest := if m.latch then false else m.servesRetest }.serveIdle

/-- The spacing timer expires (R73). -/
def Imn.spacingExpiry (m : Imn) (live : Bool) : Imn :=
  if live then { m with spacingT := some (m.spacingS * 1000), spacedPending := true }.serveIdle
  else { m with spacingT := some (m.spacingS * 1000) }

/-! ### The quiet window (R71) -/

/-- The window opens: the allocator's flag is set, and the heater is told. -/
def openWindow (s : State) : State := (s.modAlc fun a => { a with quiet := true }).modBhc Bhc.windowOpens

/-- The window closes: the allocator's flag is cleared, the heater is told, and an unlock test that waited asks for its cycle. -/
def closeWindow (s : State) : State :=
  requestUnlockIfDue ((s.modAlc fun a => { a with quiet := false }).modBhc fun b => b.windowCloses s.pins.supplyFail)

/-- The averaging state that follows a settle state (R74). -/
def Imn.startAveraging (m : Imn) (contactor : Bool) : Imn :=
  match m.st with
  | .settleA =>
    { m with st := .averageA, settleReady := false, sumP := 0, sumN := 0, sumV := 0, count := 0, isolatedA := !contactor }
  | .settleB =>
    { m with st := .averageB, settleReady := false, sumP := 0, sumN := 0, sumV := 0, count := 0, isolatedB := !contactor }
  | _ => m

/-! ### Result record and retest counts (R82, R88) -/

/-- HEATER_ISOLATED (R80): the contactor was open at the opening of both windows. -/
def Imn.heaterIsolated (m : Imn) : Bool := m.isolatedA && m.isolatedB

/-- The bus volts of the cycle, absent before phase B has ended (R78, R88). -/
def Imn.busVolts (m : Imn) : Option Int :=
  match m.avgB with
  | none => none
  | some b => some (b.vbus / 50)

/-- Replace the result record (R88); `res` is absent for a completion marked DISTURBED. -/
def Imn.record (m : Imn) (res : Option (Nat × Nat)) (t : Ttc) : Imn :=
  { m with
    result := some
      { rp := res.map fun r => r.1
        rn := res.map fun r => r.2
        min := res.map fun r => min r.1 r.2
        busVolts := m.busVolts
        disturbed := res.isNone
        branch := m.kind == .branch
        heaterIsolated := m.heaterIsolated
        restarts := m.restarts
        day := t.day
        second := t.second } }

/-- The retest turns off and RETEST is cleared. -/
def Imn.endRetest (m : Imn) : Imn := { m with retest := none, retestPending := false }

/-- The monitor's count of a completion for a running retest (R82), `good` being the new good count: at 2 the latch is
released with `m`'s minimum at or above W or not, at ten cycles the retest gives up. -/
def Imn.countRetest (m : Imn) (r : Retest) (good : Nat) (dry : Bool) : Imn :=
  if 2 ≤ good then
    { m with
      latch := false
      faultCount := 0
      verdict := if dry then .good else .warning
      cause := if dry then .none else .bus }.endRetest
  else if 10 ≤ r.cycles + 1 then m.endRetest
  else { m with retest := some ⟨good, r.cycles + 1⟩ }

/-- Whether a completion with good count `good` ends a retest without a release, which raises INSULATION (R82). -/
def givesUp (r : Retest) (good : Nat) : Bool := decide (good < 2) && decide (10 ≤ r.cycles + 1)

/-! ### Completion marked DISTURBED (R76, R82, R85, R87, R89) -/

/-- Answer the unlock of an unlock cycle and clear UNLOCK (R87). -/
def answerUnlockCycle (passed : Bool) (s : State) : State :=
  answerUnlock passed (s.modImn fun m => { m with unlockPending := false })

/-- A running retest counts a completion marked DISTURBED (R82). -/
def retestDisturbed (s : State) : State :=
  match s.imn.retest with
  | none => s
  | some r =>
    if s.imn.servesRetest then
      (if givesUp r r.good then raiseVp .insulation else id) (s.modImn fun m => m.countRetest r r.good false)
    else s

/-- What a completion marked DISTURBED ends: the pair of a branch cycle, or the unlock of an unlock cycle. -/
def endDisturbedKind (s : State) : State :=
  match s.imn.kind with
  | .branch => releaseHeater (s.modImn fun m => { m with trigger := none })
  | .unlock => answerUnlockCycle false s
  | .normal => s

/-- The monitor between a completion and its end: no cycle runs, and no cycle starts yet. -/
def quiesce (s : State) : State := s.modImn fun m => { m with st := .idle, settleT := none, settleReady := false }

/-- A completion marked DISTURBED, with the window already closed. -/
def completeDisturbed (s : State) : State :=
  imnIdle (endDisturbedKind (retestDisturbed (quiesce (s.modImn fun m => m.record none s.ttc))))

/-! ### Disturbance notices (R76) -/

/-- The settle state to which a phase returns. -/
def CycleState.settleOf : CycleState → CycleState
  | .averageA => .settleA
  | .averageB => .settleB
  | st => st

/-- A disturbance notice (R76). -/
def takeNotice (s : State) : State :=
  if s.imn.st.isAveraging then
    let s := (closeWindow s).modImn fun m => { m with restarts := m.restarts + 1 }
    if s.imn.restarts < 4 then s.modImn fun m => m.enterSettle m.st.settleOf
    else completeDisturbed (s.modImn fun m => { m with sumP := 0, sumN := 0, sumV := 0, count := 0 })
  else s

/-- Whether the heater's change from `b` to `b'` in an open window is a disturbance (R76, R99): the duty or the contactor changed, or
the heater left QUIET. -/
def Bhc.disturbs (b b' : Bhc) : Bool :=
  b'.duty != b.duty || b'.contactor != b.contactor || (b.st == .quiet && b'.st != .quiet)

/-- Run a move of the heater, and hand a notice if it was a disturbance while the flag was open (R76, R99). -/
def withNotice (f : State → State) (s : State) : State :=
  if s.bhc.quiet && s.bhc.disturbs (f s).bhc then takeNotice (f s) else f s

/-- A move of the heater's own, with its notice. -/
def heaterMove (f : Bhc → Bhc) (s : State) : State := withNotice (fun s => s.modBhc f) s

/-! ### Abandonment and DISABLED (R77) -/

/-- Whether a cycle runs or its branch test waits. -/
def Imn.isBusy (m : Imn) : Bool := m.st.isCycle || m.st == .isolating

/-- Steps 1 and 2 of an abandonment. -/
def Imn.dropCycle (m : Imn) : Imn :=
  { m with st := .idle, settleT := none, settleReady := false, avgA := none, avgB := none, trigger := none,
           sumP := 0, sumN := 0, sumV := 0, count := 0 }

/-- Abandon the cycle, leaving the monitor between states (R77). -/
def abandonCycle (s : State) : State :=
  if s.imn.isBusy then
    let release := s.imn.kind == .branch || s.imn.st == .isolating
    let unlock := s.imn.kind == .unlock && s.imn.st.isCycle
    let s := (if s.imn.st.isAveraging then closeWindow s else s).modImn Imn.dropCycle
    let s := if release then releaseHeater s else s
    if unlock then answerUnlockCycle false s else s
  else s

/-- The monitor at a fall of plug detect (R77). -/
def imnPlugFall (s : State) : State := if s.imn.isBusy then imnIdle (abandonCycle s) else s

/-- The monitor takes a period result (R77). -/
def imnTakesResult (p : PeriodResult) (s : State) : State :=
  if p.substituted || p.n == 0 then s
  else if p.vbus < Config.lowBus then
    (if s.imn.st = .disabled then s else (abandonCycle s).modImn Imn.enterDisabled)
  else if s.imn.st = .disabled then s.modImn fun m => m.leaveDisabled s.csc.session.isLive
  else s

/-! ### Isolation and branch cycles (R84) -/

/-- The heater's confirmation: in ISOLATING a BRANCH cycle starts; it serves what its triggering cycle served. -/
def Imn.confirm (m : Imn) : Imn := if m.st = .isolating then m.beginCycle .branch else m

/-- Trigger a branch test: keep the minimum and the fault limit, ask for isolation, enter ISOLATING. -/
def triggerBranch (minimum limit : Int) (s : State) : State :=
  let atOnce := s.bhc.confirmsAtOnce
  let s := (s.modImn fun m =>
    { m with trigger := some ⟨minimum, limit⟩, st := .isolating, settleT := none, settleReady := false }).modBhc Bhc.isolate
  if atOnce then s.modImn Imn.confirm else s

/-! ### From voltages to resistances (R78, R79) -/

/-- The determinant D of step 4 (R78). -/
def determinant (a : AveragesA) (b : AveragesB) : Int := b.vp * a.vn - b.vn * a.vp

/-- Rp and Rn in kΩ, or none where the cycle is DISTURBED (R78). -/
def resistances (rM : Nat) (a : AveragesA) (b : AveragesB) : Option (Nat × Nat) :=
  if a.vp + a.vn ≤ 0 ∨ b.vp + b.vn ≤ 0 then none
  else if 100 * a.vp < a.vp + a.vn then some (0, 50000)
  else if 100 * b.vn < b.vp + b.vn then some (50000, 0)
  else if determinant a b ≤ 0 then none
  else some (min 50000 (rM * determinant a b / (b.vn * (a.vp + a.vn))).toNat,
             min 50000 (rM * determinant a b / (a.vp * (b.vp + b.vn))).toNat)

/-- A limit in kΩ from a threshold in Ω/V and the bus voltage average in counts (R79). -/
def limitFor (threshold : Nat) (vbus : Int) : Int := ceilDivInt (threshold * (vbus / 50)) 1000

/-- The warning limit W of a cycle. -/
def Imn.warnLimit (m : Imn) (b : AveragesB) : Int := limitFor m.warnThreshold b.vbus

/-- The fault limit F of a cycle. -/
def Imn.faultLimit (m : Imn) (b : AveragesB) : Int := limitFor m.faultThreshold b.vbus

/-- The release level of a retest (R79). -/
def releaseLevel (f : Int) : Int := 5 * f / 4

/-! ### The verdict (R80 to R87) -/

/-- Rows 5 to 8 of R80. -/
def Imn.judgeBus (m : Imn) (minimum w f : Int) : Imn :=
  if w ≤ minimum then { m with verdict := .good, cause := .none, faultCount := 0 }
  else if f ≤ minimum then { m with verdict := .warning, cause := .bus, faultCount := 0 }
  else if m.faultCount = 0 then { m with verdict := .warning, cause := .bus, faultCount := 1 }
  else { m with verdict := .fault, cause := .bus, faultCount := 2, latch := true }

/-- Rows 6 to 8 of R80 for a cycle below its warning limit. -/
def Imn.judgeLow (m : Imn) (minimum f : Int) : Imn :=
  if f ≤ minimum then { m with verdict := .warning, cause := .bus, faultCount := 0 }
  else if m.faultCount = 0 then { m with verdict := .warning, cause := .bus, faultCount := 1 }
  else { m with verdict := .fault, cause := .bus, faultCount := 2, latch := true }

/-- The pair judgement of R85 on verdict, cause, fault count and latch. Once the trigger has set the latch, the branch cycle
changes nothing more (R81). DEDUCED, unsafe (log entry 22). -/
def Imn.judgePair (m : Imn) (t : Trigger) (mb w f : Int) : Imn :=
  if w ≤ mb then
    { m with verdict := if t.min < t.limit then .fault else .warning, cause := .heater, faultCount := 0 }
  else
    let m := m.judgeLow t.min t.limit
    if m.latch then m else m.judgeLow mb f

/-- A NORMAL cycle under FAULT with cause HEATER (R86). -/
def Imn.judgeUnderHeater (m : Imn) (minimum f : Int) : Imn :=
  if !m.heaterIsolated then m
  else if f ≤ minimum then { m with faultCount := 0 }
  else if m.faultCount = 0 then { m with faultCount := 1 }
  else { m with cause := .bus, faultCount := 2, latch := true }

/-- The effect of an unlock cycle on the verdict (R87). -/
def Imn.judgeUnlock (m : Imn) (minimum w : Int) : Imn :=
  if w ≤ minimum ∧ m.verdict = .fault ∧ m.cause = .heater then
    { m with verdict := .good, cause := .none, faultCount := 0 }
  else m

/-- Whether a completed cycle triggers a branch test (R80 row 4). -/
def Imn.triggers (m : Imn) (minimum w : Int) : Bool :=
  m.kind == .normal && !m.latch && !(m.verdict == .fault && m.cause == .heater) && m.retest.isNone && !m.heaterIsolated
    && decide (minimum < w)

/-- The judgement of a completed cycle that triggers no branch test (R80). -/
def Imn.judge (m : Imn) (minimum w f : Int) : Imn :=
  match m.kind with
  | .unlock => m.judgeUnlock minimum w
  | .branch =>
    (match m.trigger with
      | none => m
      | some t => m.judgePair t minimum w f)
  | .normal =>
    if m.latch then m
    else if m.verdict = .fault ∧ m.cause = .heater then m.judgeUnderHeater minimum f
    else m.judgeBus minimum w f

/-- The good count of a running retest after a completion not marked DISTURBED (R82). -/
def goodAfter (r : Retest) (minimum f : Int) : Nat := if releaseLevel f ≤ minimum then r.good + 1 else 0

/-- The minimum an INSULATION record carries (R89): the trigger minimum when a pair attributes to HEATER or its trigger alone
sets the latch, else that of the completed cycle. DEDUCED, unsafe (log entry 22). -/
def Imn.recordMinimum (before after : Imn) (minimum : Nat) : Nat :=
  match before.kind, before.trigger with
  | .branch, some t =>
    if after.cause = .heater ∨ (before.judgeLow t.min t.limit).latch then t.min.toNat else minimum
  | _, _ => minimum

/-! ### Settings, power-on and restart (R70, R90) -/

/-- A written warning threshold, which lowers a fault threshold above it. -/
def Imn.writeWarn (m : Imn) (w : Word) : Imn :=
  { m with warnThreshold := clampWord 100 1000 w, faultThreshold := min m.faultThreshold (clampWord 100 1000 w) }

/-- A written fault threshold, clamped again to the warning threshold in force. -/
def Imn.writeFault (m : Imn) (w : Word) : Imn :=
  { m with faultThreshold := min (clampWord 50 500 w) m.warnThreshold }

/-- The Insulation Monitor after power-on (R69). -/
def Imn.afterPowerOn (m : Imn) : Imn := .reset m.bridge

/-- The Insulation Monitor after a vehicle restart, its cycle already abandoned (R90). -/
def Imn.afterRestart (m : Imn) : Imn :=
  { m with
    st := if m.st = .disabled then .disabled else .idle
    kind := .normal, restarts := 0, avgA := none, avgB := none, trigger := none
    checkPending := false, retestPending := false, unlockPending := false, spacedPending := false
    servesCheck := false, servesRetest := false, retest := none
    settleT := none, settleReady := false
    spacingT := some (Config.defaultSpacing * 1000)
    warnThreshold := Config.defaultWarn, faultThreshold := Config.defaultFault, settleMs := Config.defaultSettle,
    spacingS := Config.defaultSpacing }

end Sys2Proof.Machine
end

