-- ==== Sys2Proof/Machine/Allocator.lean ====
section
/-! DEFINITION. The Charge Allocator (chapter 2): the allocation computation, the ramp step, cuts and the stop of its timer. The
hand-overs to the session controller are in Machine/Timers.lean. -/
namespace Sys2Proof.Machine

/-! ### The computation (R32 to R37) -/

/-- What the computation reads. -/
structure AllocationInput where
  session : Session
  holdsEmpty : Bool
  offer : Option Offer
  request : Nat
  deriving DecidableEq, Repr

/-- What the computation gives. -/
structure Allocation where
  grant : Nat
  share : Nat
  request : Nat
  target : Nat
  noVoltage : Bool
  deriving DecidableEq, Repr

/-- The inputs in force (R31). -/
def allocationInput (s : State) : AllocationInput :=
  { session := s.csc.session, holdsEmpty := s.csc.holds.isEmpty, offer := s.csc.offer, request := heaterRequest s.bhc }

/-- The voltage check fails (R32). -/
def Alc.lowVoltage (a : Alc) : Bool := decide (a.vrms < Config.lowVrms) || decide (a.vbus < Config.lowBus)

/-- The offer in force if it is valid (R5, R33). -/
def validOffer (o : Option Offer) : Option Offer :=
  match o with
  | none => none
  | some x => if x.valid then some x else none

/-- The current cap I_cap (R33). -/
def Alc.cap (a : Alc) (i : AllocationInput) : Nat :=
  match validOffer i.offer with
  | none => 0
  | some o => min o.max a.rating

/-- The DC power available P_dc_avail (R33). -/
def Alc.available (a : Alc) (i : AllocationInput) : Nat := a.vrms * a.cap i / 500 * a.efficiency / 1000

/-- The heater grant P_htr (R34). -/
def Alc.heaterShare (a : Alc) (i : AllocationInput) : Nat :=
  match i.session with
  | .starting | .transfer | .hold => min i.request (a.available i)
  | _ => 0

/-- The battery share P_bat (R35). -/
def Alc.batteryShare (a : Alc) (i : AllocationInput) : Nat :=
  if i.session = .transfer ∧ i.holdsEmpty then
    min (a.available i - a.heaterShare i) (min a.powerLimit (a.currentLimit * a.vbus.toNat / 500))
  else 0

/-- The DC total P_dc (R36); in STOPPING it is 0, as its two terms are. -/
def Alc.total (a : Alc) (i : AllocationInput) : Nat := a.batteryShare i + a.heaterShare i

/-- The AC request before minimum and cap (R36). -/
def Alc.rawRequest (a : Alc) (i : AllocationInput) : Nat := ceilDiv (a.total i * 500000) (a.efficiency * a.vrms)

/-- The AC request lifted to the minimum of a valid offer (R36). -/
def Alc.liftedRequest (a : Alc) (i : AllocationInput) : Nat :=
  match validOffer i.offer with
  | none => a.rawRequest i
  | some o => if 0 < a.rawRequest i ∧ a.rawRequest i < o.min then o.min else a.rawRequest i

/-- One allocation computation (R32 to R37). -/
def Alc.compute (a : Alc) (i : AllocationInput) : Allocation :=
  if a.lowVoltage then { grant := 0, share := 0, request := 0, target := 0, noVoltage := true }
  else
    { grant := a.heaterShare i
      share := a.batteryShare i
      request := min (a.liftedRequest i) (a.cap i)
      target := min 4095 (a.total i * 500 / a.vbus.toNat)
      noVoltage := false }

/-! ### The ramp step (R38, R40) -/

/-- The present setpoint after a ramp step toward `target`. -/
def rampStep (quiet stopping : Bool) (setpoint target : Nat) : Nat :=
  if quiet && !stopping then
    (if setpoint ≤ target + 5 then setpoint else target)
  else if setpoint + 10 < target then setpoint + 10 else target

/-- The allocator after one expiry: computation, then ramp step. -/
def Alc.expire (a : Alc) (i : AllocationInput) : Alc :=
  let r := a.compute i
  { a with
    timer := some Config.allocationMs
    grant := r.grant
    share := r.share
    lastRequest := r.request
    target := r.target
    setpoint := rampStep a.quiet (i.session == .stopping) a.setpoint r.target }

/-! ### Cuts (R41, R44) -/

/-- A cut: present setpoint, target and request 0, with a notice if the quiet flag is open and the setpoint was not 0. That the
request falls to 0 at once is R44's; R41 names setpoint and target alone. DEDUCED, unsafe (log entry 33). -/
def cutSetpoint (s : State) : State :=
  let moved := s.alc.quiet && s.alc.setpoint != 0
  let s := s.modAlc fun a => { a with setpoint := 0, target := 0, lastRequest := 0 }
  if moved then takeNotice s else s

/-- Hand a heater grant over (R42), with the heater's notice. -/
def handGrant (g : Nat) (s : State) : State := heaterMove (fun b => b.takeGrant s.pins.supplyFail g) s

/-- The allocation timer stops (R31, R41): every result is 0, and the heater is handed a grant of 0. -/
def stopAllocation (s : State) : State :=
  if s.alc.timer.isNone then s
  else
    let moved := s.alc.quiet && s.alc.setpoint != 0
    let s := handGrant 0 (s.modAlc fun a =>
      { a with timer := none, setpoint := 0, target := 0, lastRequest := 0, grant := 0, share := 0 })
    if moved then takeNotice s else s

/-! ### Period results, power-on and restart (R28, R30) -/

/-- The allocator takes a period result (R30). -/
def Alc.takeResult (a : Alc) (p : PeriodResult) : Alc :=
  if p.substituted then a else { a with vrms := p.vrms, vbus := p.vbus }

/-- The allocator after power-on (R28, R29). -/
def Alc.afterPowerOn (a : Alc) : Alc := .reset a.efficiency

/-- The allocator after a vehicle restart (R28): as after power-on, with the last voltages kept. -/
def Alc.afterRestart (a : Alc) : Alc := { Alc.reset a.efficiency with vrms := a.vrms, vbus := a.vbus }

end Sys2Proof.Machine
end

