-- ==== Sys2Proof/Machine/Meter.lean ====
section
/-! DEFINITION. The Metering Engine (chapter 7): the first slot of a period, the sums of a slot, and the period close. -/
namespace Sys2Proof.Machine

/-! ### What a slot hands the engine (R118, R127) -/

/-- A channel in one slot: its value, absent with weight 0, and whether it comes from substitution (R115). -/
structure ChannelValue where
  value : Option Int
  substituted : Bool
  deriving DecidableEq, Repr

/-- What slot assembly hands on at the end of a slot (R118). -/
structure SlotValues where
  vac : ChannelValue
  iac : ChannelValue
  vbus : ChannelValue
  iobc : ChannelValue
  ihtr : ChannelValue
  visoP : ChannelValue
  visoN : ChannelValue
  kind : SlotKind
  drops : Nat
  gaps : Nat
  single : Bool
  disagree : Bool
  substitution : Bool
  deriving DecidableEq, Repr

/-! ### The first slot of a period (R126) -/

/-- The latches of a period that starts in this state; `t` is the tariff clock after its own period start. -/
def latchesAt (s : State) : Latches :=
  { day := s.ttc.startDay
    second := s.ttc.startSecond
    timeUnset := s.ttc.timeUnset
    band := s.ttc.band
    price := s.ttc.price
    creep := s.mtr.creep
    session := if s.csc.session.isOpen then openSession s else none
    run := s.bhc.run.isSome
    stopping := s.csc.session == .stopping }

/-- The session set at a first slot whose session latch is `latch` (R126). -/
def ownedSet (d : SessionSet) (latch : Option Nat) : SessionSet :=
  match latch with
  | none => d
  | some n => if d.owner = some n then d else .clear (some n)

/-- The first slot of a period: sums, counts and flags cleared, latches taken, the session set handed to its session. -/
def startPeriod (s : State) : State :=
  let l := latchesAt s
  s.modMtr fun m => { m with sums := .zero, counts := .zero, latches := l, sess := ownedSet m.sess l.session }

/-! ### The sums of a slot (R127, R128) -/

/-- The values of a slot of weight 1, in the order VAC, IAC, VBUS, IOBC, IHTR (R115). -/
def SlotValues.metered (v : SlotValues) : Option (Int × Int × Int × Int × Int) :=
  match v.vac.value, v.iac.value, v.vbus.value, v.iobc.value, v.ihtr.value with
  | some a, some b, some c, some d, some e => some (a, b, c, d, e)
  | _, _, _, _, _ => none

/-- Add a slot of weight 1 to the period sums (R127). -/
def Sums.add (x : Sums) (vac iac vbus iobc ihtr : Int) : Sums :=
  { ac := x.ac + vac * iac
    obc := x.obc + vbus * iobc
    htr := x.htr + vbus * ihtr
    vacSq := x.vacSq + vac.natAbs * vac.natAbs
    vbus := x.vbus + vbus
    iac := x.iac + iac.natAbs
    iobc := x.iobc + iobc.natAbs
    ihtr := x.ihtr + ihtr.natAbs
    n := x.n + 1 }

/-- Count a slot into the period counts and flags (R128). -/
def Counts.add (c : Counts) (v : SlotValues) : Counts :=
  { fresh := c.fresh + boolNat (v.kind == .fresh)
    slipRepeats := c.slipRepeats + boolNat (v.kind == .slipRepeat)
    gaps := c.gaps + boolNat (v.kind == .gap)
    slipDrops := c.slipDrops + v.drops
    barrierGaps := c.barrierGaps + v.gaps
    substituted := c.substituted || v.substitution
    disagree := c.disagree || v.disagree
    single := c.single || v.single }

/-- The engine takes a slot and counts on to the next. -/
def Mtr.takeSlot (m : Mtr) (v : SlotValues) : Mtr :=
  { m with
    sums :=
      match v.metered with
      | some (a, b, c, d, e) => m.sums.add a b c d e
      | none => m.sums
    counts := m.counts.add v
    slot := m.slot + 1 }

/-! ### Period close: energies, averages, split, route (R129 to R132) -/

/-- The mean magnitude of a current over the weight-1 slots, 0 when there is none. -/
def meanOf (total n : Nat) : Nat := if n = 0 then 0 else total / n

/-- The energy of a pair after creep (R129). -/
def afterCreep (energy : Int) (total n creep : Nat) : Int :=
  if n = 0 ∨ meanOf total n < creep then 0 else energy

/-- The energies and averages of a period (R129, R130). -/
structure Closing where
  pAc : Int
  pObc : Int
  pHtr : Int
  vrms : Nat
  vbus : Int
  meanIobc : Nat
  deriving DecidableEq, Repr

/-- Creep and averages from the sums. -/
def Sums.close (x : Sums) (creep : Nat) : Closing :=
  { pAc := afterCreep x.ac x.iac x.n creep
    pObc := afterCreep x.obc x.iobc x.n creep
    pHtr := afterCreep x.htr x.ihtr x.n creep
    vrms := if x.n = 0 then 0 else isqrt (x.vacSq / x.n)
    vbus := if x.n = 0 then 0 else x.vbus / (x.n : Int)
    meanIobc := meanOf x.iobc x.n }

/-- The heating share H (R131). -/
def heatingShare (c : Closing) : Nat :=
  if 0 < c.pAc ∧ 0 < c.pObc ∧ 0 < c.pHtr then
    (if c.pObc ≤ c.pHtr then c.pAc.toNat else (c.pAc * c.pHtr / c.pObc).toNat)
  else 0

/-- The traction share T (R131). -/
def tractionShare (c : Closing) : Nat := c.pAc.toNat - heatingShare c

/-- The route of a period (R132). -/
def routeOf (substituted : Bool) (latch : Option Nat) (pAc : Int) : Route :=
  if substituted then .verification
  else
    match latch with
    | some n => .session n
    | none => if 0 < pAc then .unrecorded else .none

/-! ### Accumulators (R136) -/

/-- A 32-bit Wh counter. -/
def wh32 (n : Nat) : Nat := n % 4294967296

/-- Feed a positive accumulator: the accumulator after its carry. -/
def Acc.feed (a : Acc) (x : Nat) : Acc :=
  { rem := (a.rem + x) % Config.whUnit, wh := wh32 (a.wh + (a.rem + x) / Config.whUnit) }

/-- The whole Wh a positive accumulator carries when fed. -/
def Acc.carry (a : Acc) (x : Nat) : Nat := (a.rem + x) / Config.whUnit

/-- Import Wh the import/export accumulator carries when fed. -/
def NetAcc.importCarry (a : NetAcc) (x : Int) : Nat :=
  if (Config.whUnit : Int) ≤ a.rem + x then ((a.rem + x) / Config.whUnit).toNat else 0

/-- Export Wh the import/export accumulator carries when fed. -/
def NetAcc.exportCarry (a : NetAcc) (x : Int) : Nat :=
  if a.rem + x ≤ -(Config.whUnit : Int) then (-(a.rem + x) / Config.whUnit).toNat else 0

/-- Feed the import/export accumulator. -/
def NetAcc.feed (a : NetAcc) (x : Int) : NetAcc :=
  { rem := a.rem + x - a.importCarry x * Config.whUnit + a.exportCarry x * Config.whUnit
    imp := wh32 (a.imp + a.importCarry x)
    exp := wh32 (a.exp + a.exportCarry x) }

/-- A 48-bit cost tick counter raised by the price of `wh` (R137). -/
def addTicks (ticks wh price : Nat) : Nat := (ticks + wh * price) % 281474976710656

/-- Credit the session set (R133, R137). -/
def SessionSet.credit (d : SessionSet) (c : Closing) (band : Band) (price : Nat) : SessionSet :=
  { d with
    net := d.net.feed c.pAc
    traction := d.traction.set band ((d.traction.get band).feed (tractionShare c))
    heating := d.heating.set band ((d.heating.get band).feed (heatingShare c))
    dcOut := d.dcOut.feed c.pObc.toNat
    heaterDc := d.heaterDc.feed c.pHtr.toNat
    tractionTicks := addTicks d.tractionTicks ((d.traction.get band).carry (tractionShare c)) price
    heatingTicks := addTicks d.heatingTicks ((d.heating.get band).carry (heatingShare c)) price }

/-- Credit the verification set (R134). -/
def VerifSet.credit (v : VerifSet) (c : Closing) : VerifSet :=
  { net := v.net.feed c.pAc
    traction := v.traction.feed (tractionShare c)
    heating := v.heating.feed (heatingShare c)
    dcOut := v.dcOut.feed c.pObc.toNat
    heaterDc := v.heaterDc.feed c.pHtr.toNat }

/-- The heater energy a close feeds to the heater run accumulator (R135). -/
def runFeed (m : Mtr) (c : Closing) (runPresent : Bool) : Nat :=
  if !m.counts.substituted && m.latches.run && runPresent then c.pHtr.toNat else 0

/-- No Wh carried. -/
def Carried.zero : Carried := ⟨0, 0, 0, 0, 0, 0, 0, 0⟩

/-- The Wh carried in a close (R139). -/
def carriedOf (m : Mtr) (c : Closing) (route : Route) (runPresent : Bool) : Carried :=
  let run := m.run.carry (runFeed m c runPresent)
  match route with
  | .session _ =>
    { imp := m.sess.net.importCarry c.pAc
      exp := m.sess.net.exportCarry c.pAc
      traction := (m.sess.traction.get m.latches.band).carry (tractionShare c)
      heating := (m.sess.heating.get m.latches.band).carry (heatingShare c)
      dcOut := m.sess.dcOut.carry c.pObc.toNat
      heaterDc := m.sess.heaterDc.carry c.pHtr.toNat
      unrecorded := 0
      run := run }
  | .verification =>
    { imp := m.verif.net.importCarry c.pAc
      exp := m.verif.net.exportCarry c.pAc
      traction := m.verif.traction.carry (tractionShare c)
      heating := m.verif.heating.carry (heatingShare c)
      dcOut := m.verif.dcOut.carry c.pObc.toNat
      heaterDc := m.verif.heaterDc.carry c.pHtr.toNat
      unrecorded := 0
      run := run }
  | .unrecorded =>
    { Carried.zero with unrecorded := (m.unrecordedRem + c.pAc.toNat) / Config.whUnit, run := run }
  | .none => { Carried.zero with run := run }

/-! ### The close (R129 to R139) -/

/-- The energies and averages of the period that closes. -/
def Mtr.closing (m : Mtr) : Closing := m.sums.close m.latches.creep

/-- The route of the period that closes. -/
def Mtr.route (m : Mtr) : Route := routeOf m.counts.substituted m.latches.session m.closing.pAc

/-- The heater run accumulator after the close. -/
def Mtr.runAfter (m : Mtr) (runPresent : Bool) : Acc := m.run.feed (runFeed m m.closing runPresent)

/-- The period result (R139). -/
def Mtr.result (m : Mtr) (runPresent : Bool) : PeriodResult :=
  let c := m.closing
  { day := m.latches.day, second := m.latches.second, timeUnset := m.latches.timeUnset, stopping := m.latches.stopping,
    band := m.latches.band, n := m.sums.n, slipRepeats := m.counts.slipRepeats, gaps := m.counts.gaps,
    slipDrops := m.counts.slipDrops, barrierGaps := m.counts.barrierGaps, substituted := m.counts.substituted,
    disagree := m.counts.disagree, single := m.counts.single, pAc := c.pAc, pObc := c.pObc, pHtr := c.pHtr,
    traction := tractionShare c, heating := heatingShare c, vrms := c.vrms, vbus := c.vbus, meanIobc := c.meanIobc,
    route := m.route, carried := carriedOf m c m.route runPresent, runWh := (m.runAfter runPresent).wh }

/-- The engine after the close: the routed set and the heater run accumulator credited, the result kept, and the next slot the
first of a period. -/
def Mtr.closed (m : Mtr) (runPresent : Bool) : Mtr :=
  let c := m.closing
  { m with
    slot := 1
    sess :=
      match m.route with
      | .session _ => m.sess.credit c m.latches.band m.latches.price
      | _ => m.sess
    unrecordedRem :=
      match m.route with
      | .unrecorded => (m.unrecordedRem + c.pAc.toNat) % Config.whUnit
      | _ => m.unrecordedRem
    verif :=
      match m.route with
      | .verification => m.verif.credit c
      | _ => m.verif
    run := m.runAfter runPresent
    last := some (m.result runPresent) }

/-- Clear the heater run accumulator, and the run latch of the period in progress (R135). -/
def Mtr.clearRun (m : Mtr) : Mtr := { m with run := ⟨0, 0⟩, latches := { m.latches with run := false } }

end Sys2Proof.Machine
end

