-- ==== Sys2Proof/Machine/Channels.lean ====
section
/-! DEFINITION. The sense die, the barrier link and slot assembly (chapter 6): each block's own moves, the hand-overs apart. -/
namespace Sys2Proof.Machine

/-! ### The sense die (R108, R109) -/

/-- A conversion saturated to 16 bits (R108). -/
def saturate16 (x : Int) : Int := clampInt (-32768) 32767 x

/-- The raw value of four conversions (R108). -/
def rawOf (c : Conversions) : Word :=
  intWord ((saturate16 c.a + saturate16 c.b + saturate16 c.c + saturate16 c.d) / 4)

/-- Sets a channel stays invalid after its return to ACTIVE from a mode (R109). -/
def recoverySets : ChannelMode → Nat
  | .active => 0
  | .light => 8
  | .deep => 400

/-- Remaining recovery of a channel after the mode change at the start of a set (R109). -/
def recoveryAfter (mode new : ChannelMode) (left : Nat) : Nat :=
  if new = .active then (if mode = .active then left else recoverySets mode) else 0

/-- The sense die at the start of a set: the modes received are applied. -/
def Sfe.applyModes (f : Sfe) : Sfe :=
  { f with
    modes := f.received
    recovery := Oct.ofFn fun c => recoveryAfter (f.modes.get c) (f.received.get c) (f.recovery.get c) }

/-- Whether a channel is valid in the set (R109). -/
def Sfe.isValid (f : Sfe) (c : Fin 8) : Bool := f.modes.get c == .active && f.recovery.get c == 0

/-- The valid mask of a set, channel c in bit c. -/
def Sfe.validMask (f : Sfe) : Byte :=
  BitVec.ofNat 8 (boolNat (f.isValid 0) + 2 * boolNat (f.isValid 1) + 4 * boolNat (f.isValid 2) + 8 * boolNat (f.isValid 3)
    + 16 * boolNat (f.isValid 4) + 32 * boolNat (f.isValid 5) + 64 * boolNat (f.isValid 6) + 128 * boolNat (f.isValid 7))

/-- The barrier frame of a set (R108). -/
def Sfe.frameOf (f : Sfe) (conv : Oct Conversions) : BarrierFrame :=
  let raw := Oct.ofFn fun c => rawOf (conv.get c)
  { seq := f.seq, raw := raw, valid := f.validMask, check := crc8 f.seq raw f.validMask }

/-- One set time (R108, R109): modes, frame, sequence and recovery counts. -/
def Sfe.setTime (f : Sfe) (conv : Oct Conversions) : Sfe :=
  let g := f.applyModes
  { g with
    seq := g.seq + 1
    recovery := Oct.ofFn fun c => g.recovery.get c - 1
    sent := some (g.frameOf conv) }

/-! ### The barrier link (R111, R112) -/

/-- A frame passes its check (R108, R111). -/
def frameIntact (f : BarrierFrame) : Bool := f.check == crc8 f.seq f.raw f.valid

/-- The missing count at a frame with sequence `seq` after `last` (R111). -/
def missingCount (last : Option (BitVec 4)) (seq : BitVec 4) : Nat :=
  match last with
  | none => 0
  | some l => (seq - l - 1).toNat

/-- A count that wraps from 65,535 to 0 (R118). -/
def wrap16 (n : Nat) : Nat := n % 65536

/-- An arriving frame (R111). -/
def Ble.arrive (b : Ble) (f : BarrierFrame) : Ble :=
  if !frameIntact f then b
  else
    let k := missingCount b.lastSeq f.seq
    let b := { b with lastSeq := some f.seq, newGaps := b.newGaps + k, barrierGaps := wrap16 (b.barrierGaps + k) }
    if b.store.length < 4 then { b with store := b.store ++ [⟨f.raw, f.valid⟩] }
    else { b with newDrops := b.newDrops + 1, slipDrops := wrap16 (b.slipDrops + 1) }

/-- The set of a slot (R112): its kind and set are in `prevKind` and `prevSet` afterwards. -/
def Ble.take (b : Ble) : Ble :=
  match b.store with
  | x :: rest => { b with store := rest, prevKind := .fresh, prevSet := some x, gapRun := 0 }
  | [] =>
    if b.prevKind = .fresh then { b with prevKind := .slipRepeat, slipRepeats := wrap16 (b.slipRepeats + 1) }
    else { b with prevKind := .gap, prevSet := none, gapRun := min 32 (b.gapRun + 1), gapSlots := wrap16 (b.gapSlots + 1) }

/-- A change of the link at a slot (R113). -/
inductive LinkChange where
  | none
  | down
  | up
  deriving DecidableEq, Repr

/-- The change of the link that the slot just taken brings (R113). -/
def Ble.linkChange (b : Ble) : LinkChange :=
  if b.linkUp then (if b.gapRun = 32 then .down else .none)
  else if b.prevKind = .fresh then .up else .none

/-- The link and the last sequence number after a change (R111, R113). -/
def Ble.setLink (b : Ble) : LinkChange → Ble
  | .none => b
  | .down => { b with linkUp := false, lastSeq := none }
  | .up => { b with linkUp := true }

/-- The counts handed with a slot begin again. -/
def Ble.clearNew (b : Ble) : Ble := { b with newDrops := 0, newGaps := 0 }

/-! ### Correction and substitution (R114, R119, R120) -/

/-- A raw value corrected by offset and gain (R114). -/
def corrected (raw : Word) (offset : Int) (gain : Nat) : Int :=
  clampInt (-32767) 32767 (((raw.toInt - offset) * gain + 16384) / 32768)

/-- The generator a channel's record loads (R119, R120): a PRBS seed of 0 is replaced by 1. -/
def SubstRecord.load (r : SubstRecord) : Generator :=
  let seed : BitVec 23 := BitVec.ofNat 23 (r.value2.toNat % 128 * 65536 + r.value1.toNat)
  { value := r.value1, register := if seed = 0 then 1 else seed, second := false }

/-- The value of a generator in the present slot (R120). -/
def patternValue (r : SubstRecord) (g : Generator) : Int :=
  match r.pattern with
  | .prbs => (g.register.setWidth 16).toInt
  | .alternate => (if g.second then r.value2 else r.value1).toInt
  | _ => g.value.toInt

/-- The next PRBS register (R120). -/
def prbsNext (x : BitVec 23) : BitVec 23 :=
  (x <<< 1) ||| (if x.getLsbD 22 == x.getLsbD 17 then 0 else 1)

/-- A generator one slot on (R120). -/
def Generator.advance (g : Generator) (p : Pattern) : Generator :=
  match p with
  | .ramp => { g with value := g.value + 1 }
  | .prbs => { g with register := prbsNext g.register }
  | .alternate => { g with second := !g.second }
  | _ => g

/-- Whether a channel is configured (R119). -/
def Asm.configured (a : Asm) (c : Fin 8) : Bool := (a.substConfig.get c).pattern != .none

/-- The slot value of a channel (R115). -/
def channelValue (a : Asm) (b : Ble) (c : Fin 8) : ChannelValue :=
  if a.substituting && a.configured c then ⟨some (patternValue (a.substConfig.get c) (a.generators.get c)), true⟩
  else
    match b.prevSet with
    | none => ⟨none, false⟩
    | some x =>
      if x.valid.getLsbD c.val then ⟨some (corrected (x.raw.get c) (a.offset.get c) (a.gain.get c)), false⟩
      else ⟨none, false⟩

/-- An ARMED substitution enters RUNNING at the first slot of a period and loads its generators (R121). -/
def Asm.startRunning (a : Asm) : Asm :=
  if a.subst = .armed then
    { a with subst := .running, substituting := true, generators := Oct.ofFn fun c => (a.substConfig.get c).load }
  else a

/-- The generators at the end of a slot (R120). -/
def Asm.advance (a : Asm) : Asm :=
  if a.substituting then
    { a with generators := Oct.ofFn fun c => (a.generators.get c).advance (a.substConfig.get c).pattern }
  else a

/-! ### The two AC sensors (R116, R117) -/

/-- A sensor's value if it is usable (R116). -/
def usable (v : ChannelValue) (blocked : Bool) : Option Int := if blocked then none else v.value

/-- IAC and SINGLE (R116). -/
def combineIac (x y : ChannelValue) (block : Block) : ChannelValue × Bool :=
  match usable x (block == .sensorA), usable y (block == .sensorB) with
  | some a, some b => (⟨some ((a + b) / 2), x.substituted || y.substituted⟩, false)
  | some a, none => (⟨some a, x.substituted⟩, true)
  | none, some b => (⟨some b, y.substituted⟩, true)
  | none, none => (⟨none, false⟩, false)

/-- The disagreement monitor after a tested difference (R117). -/
def Asm.compare (a : Asm) (x y : Int) : Asm :=
  if 250 < (x - y).natAbs then
    if a.disagree then { a with agreeRun := 0 }
    else if 64 ≤ a.disagreeRun + 1 then { a with disagreeRun := 64, disagree := true, agreeRun := 0 }
    else { a with disagreeRun := a.disagreeRun + 1 }
  else if a.disagree then
    if 4000 ≤ a.agreeRun + 1 then { a with agreeRun := 4000, disagree := false, disagreeRun := 0 }
    else { a with agreeRun := a.agreeRun + 1 }
  else { a with disagreeRun := 0 }

/-- The disagreement test of a slot (R117). -/
def Asm.testSensors (a : Asm) (x y : ChannelValue) : Asm :=
  match x.value, y.value with
  | some p, some q => if a.block = .none then a.compare p q else a
  | _, _ => a

/-- A write of IAC_BLOCK (R116, R117): a change clears DISAGREE and both runs. -/
def Asm.writeBlock (a : Asm) (k : Block) : Asm :=
  if a.block = k then a else { a with block := k, disagree := false, disagreeRun := 0, agreeRun := 0 }

/-! ### One slot's assembly (R112 to R118) -/

/-- Slot assembly after a slot: the disagreement monitor, and the SINGLE, DISAGREE and validity the Vehicle Port reads. A channel is
valid in the slot when it has weight 1 (R115), so a substituted one always is (R110): DEDUCED, unsafe (log entry 32). -/
def Asm.takeSlot (a : Asm) (b : Ble) : Asm :=
  let x := channelValue a b chIacA
  let y := channelValue a b chIacB
  { a.testSensors x y with
    single := (combineIac x y a.block).2
    disagreeLast := (a.testSensors x y).disagree
    validLast := Oct.ofFn fun c => (channelValue a b c).value.isSome }

/-- The results handed on at the end of a slot (R118); `before` is slot assembly before the slot, `after` after it. -/
def slotValues (before after : Asm) (b : Ble) : SlotValues :=
  { vac := channelValue before b chVac
    iac := (combineIac (channelValue before b chIacA) (channelValue before b chIacB) before.block).1
    vbus := channelValue before b chVbus
    iobc := channelValue before b chIobc
    ihtr := channelValue before b chIhtr
    visoP := channelValue before b chVisoP
    visoN := channelValue before b chVisoN
    kind := b.prevKind
    drops := b.newDrops
    gaps := b.newGaps
    single := after.single
    disagree := after.disagree
    substitution := before.substituting }

/-- The Insulation Monitor takes a slot (R74, R75): a counting slot ends a settle whose timer has expired, or adds to the sums. -/
def Imn.takeSlot (m : Imn) (v : SlotValues) : Imn :=
  match v.visoP.value, v.visoN.value, v.vbus.value with
  | some p, some n, some u =>
    (match m.st with
      | .settleA | .settleB => if m.settleT.isNone then { m with settleReady := true } else m
      | .averageA | .averageB =>
        if m.count < Config.averagingSlots then
          { m with sumP := m.sumP + p, sumN := m.sumN + n, sumV := m.sumV + u, count := m.count + 1 }
        else m
      | _ => m)
  | _, _, _ => m

/-- Whether a slot meets the overcurrent test with a current above the limit (R101). -/
def overcurrent (b : Bhc) (v : SlotValues) : Bool :=
  match v.ihtr.value with
  | none => false
  | some x => !v.ihtr.substituted && decide ((b.currentLimit : Int) < x)

/-- The slot of R101 is tested only while the link is UP. -/
def overcurrentAt (s : State) (v : SlotValues) : Bool := s.ble.linkUp && overcurrent s.bhc v

/-! ### Power-on and restart (R123) -/

/-- Slot assembly after power-on. -/
def Asm.afterPowerOn (a : Asm) : Asm := .reset a.offset a.gain

/-- Slot assembly after a vehicle restart. -/
def Asm.afterRestart (a : Asm) : Asm := { a.writeBlock .none with standby := .fill .active }

end Sys2Proof.Machine
end

