-- ==== Sys2Proof/Machine/Line.lean ====
section
/-! DEFINITION. The Station Line Controller (chapter 3): the pending table, the frames the part builds, the transmitter and the
bit-level receive assembler. What a received frame does is in Machine/Station.lean. -/
namespace Sys2Proof.Machine

/-! ### The pending table (R56, R57) -/

/-- The entry of a kind. -/
def TxTable.get (t : TxTable) : TxKind → TxEntry
  | .stop => t.stop
  | .request => t.request
  | .meter => t.meter
  | .status => t.status
  | .hello => t.hello

/-- The table with the entry of a kind replaced. -/
def TxTable.set (t : TxTable) (k : TxKind) (e : TxEntry) : TxTable :=
  match k with
  | .stop => { t with stop := e }
  | .request => { t with request := e }
  | .meter => { t with meter := e }
  | .status => { t with status := e }
  | .hello => { t with hello := e }

/-- Whether the entry's own frame is on the line: sending, of this kind, and not withdrawn since. -/
def Slc.onLine (l : Slc) (k : TxKind) : Bool :=
  match l.sending with
  | none => false
  | some x => x.kind == k && !x.withdrawn

/-- Place a frame in the entry of its kind (R56): as the entry's replacement while its frame is on the line, else as its frame. -/
def Slc.place (l : Slc) (k : TxKind) (f : TxFrame) : Slc :=
  { l with
    table := l.table.set k
      (if l.onLine k then { l.table.get k with replacement := some f } else { frame := some f, fails := 0, replacement := none }) }

/-- Withdraw the entry of a kind (R57); its frame on the line goes on, no longer the entry's. -/
def Slc.withdraw (l : Slc) (k : TxKind) : Slc :=
  { l with
    table := l.table.set k .empty
    sending := l.sending.map fun x => if x.kind = k then { x with withdrawn := true } else x }

/-- Withdraw every entry (R2). -/
def Slc.withdrawAll (l : Slc) : Slc :=
  ((((l.withdraw .stop).withdraw .request).withdraw .meter).withdraw .status).withdraw .hello

/-! ### Building frames (R65, R67) -/

/-- Kind codes of the frames the part sends (R65). -/
def TxKind.code : TxKind → Byte
  | .hello => 0x81
  | .request => 0x82
  | .meter => 0x83
  | .status => 0x84
  | .stop => 0x85

/-- Destination byte by kind, from the value of match slot 0 at scheduling (R67). -/
def destination (own : Byte) : TxKind → Byte
  | .hello => 0x3F
  | _ => 0x20 ||| (own &&& 0x1F)

/-- Schedule a frame of kind `k`: built now, placed in its entry (R56, R67). -/
def scheduleFrame (k : TxKind) (payload : List Byte) (s : State) : State :=
  s.modSlc fun l => l.place k { dest := destination l.ownAddr k, src := l.ownAddr, kind := k.code, payload := payload }

/-- The current field of a REQUEST: the least of the last request, the offer's maximum (0 when absent) and the rating (R26). -/
def requestField (s : State) : Nat :=
  min (min s.alc.lastRequest (match s.csc.offer with
                              | none => 0
                              | some o => o.max)) s.alc.rating

/-- The sequence a REQUEST carries: that of the offer in force, 0 when it is absent (R26). -/
def requestSeq (s : State) : Nat :=
  match s.csc.offer with
  | none => 0
  | some o => o.seq

/-- Schedule a REQUEST; it restarts the REQUEST timer (R26). -/
def scheduleRequest (s : State) : State :=
  (scheduleFrame .request (be16 (requestField s) ++ be8 s.csc.session.code ++ be8 (requestSeq s)) s).modCsc
    fun c => { c with lastField := requestField s, requestT := some Config.requestMs }

/-- Reschedule a pending REQUEST under a changed offer or rating (R23, R26, R29). DEDUCED, unsafe (log entry 15). -/
def reboundRequest (s : State) : State :=
  if (s.slc.table.get .request).frame.isSome then scheduleRequest s else s

/-- Schedule a METER for session number `n` (R27, R138). -/
def scheduleMeter (n : Nat) (s : State) : State :=
  let d := sessionSetFor s n
  scheduleFrame .meter (be16 n ++ be32 d.net.imp ++ be32 (cents d.tractionTicks + cents d.heatingTicks)) s

/-- Schedule a STATUS and start the STATUS timer (R25). -/
def scheduleStatus (s : State) : State :=
  (scheduleFrame .status (be8 s.csc.holds.mask ++ be8 s.imn.statusByte ++ be8 s.bhc.st.code) s).modCsc
    fun c => { c with statusT := some Config.statusMs }

/-- Schedule a HELLO with the rating in force (R3). -/
def scheduleHello (s : State) : State :=
  scheduleFrame .hello (be8 Config.familyCode ++ be16 s.alc.rating) s

/-- Schedule a STOP with a stop reason code (R10, R24). -/
def scheduleStop (code : Nat) (s : State) : State := scheduleFrame .stop (be8 code) s

/-! ### The transmitter (R46, R58 to R63) -/

/-- Whether an entry holds a frame that is not on the line (R58). -/
def Slc.holdsFrame (l : Slc) (k : TxKind) : Bool :=
  if l.onLine k then (l.table.get k).replacement.isSome else (l.table.get k).frame.isSome

/-- The transmitter's states (R58). -/
inductive TxState where
  | empty
  | waiting
  | sending
  deriving DecidableEq, Repr

/-- The first kind in the order of R58 that `p` allows. -/
def firstKind (p : TxKind → Bool) : Option TxKind :=
  if p .stop then some .stop else if p .request then some .request else if p .meter then some .meter
  else if p .status then some .status else if p .hello then some .hello else none

/-- The transmitter's state (R58): SENDING, WAITING or EMPTY. -/
def Slc.txState (l : Slc) : TxState :=
  if l.sending.isSome then .sending
  else if (firstKind l.holdsFrame).isSome then .waiting else .empty

/-- The idle count the transmitter requires for a kind (R59). -/
def Slc.required (l : Slc) : TxKind → Nat
  | .stop => 8
  | _ => if l.deferring then 11 else 10

/-- The entry with which an access begins in the next bit time (R59): in WAITING, the first in the order of R58, once the idle count
meets what its class requires. -/
def Slc.accessDue (l : Slc) : Option TxKind :=
  if l.sending.isSome then none
  else
    match firstKind l.holdsFrame with
    | none => none
    | some k => if l.required k ≤ l.idle then some k else none

/-- The content bytes of a frame, check bytes last (R46, R65). -/
def TxFrame.content (f : TxFrame) : List Byte :=
  let body := f.dest :: f.src :: f.kind :: f.payload
  body ++ checkBytes body

/-- Put a frame of kind `k` on the line (R46): its line bits, with an opening delimiter unless the closing delimiter of the frame
before it serves, and the count of bits under arbitration, through the kind byte (R60). -/
def Slc.begin (l : Slc) (k : TxKind) (sentBefore : Nat) : Slc :=
  match (l.table.get k).frame with
  | none => { l with sending := none }
  | some f =>
    let opening := if sentBefore = 0 then delimiter else []
    { l with
      sending := some
        { kind := k
          bits := opening ++ stuff (bitsOfBytes f.content) ++ delimiter
          arbitration := opening.length + (stuff (bitsOfBytes [f.dest, f.src, f.kind])).length
          sentBefore := sentBefore
          withdrawn := false } }

/-- The entry of a kind when its frame on the line has ended and a replacement, if held, takes it; `rest` is the entry
otherwise (R56). -/
def TxEntry.ended (e rest : TxEntry) : TxEntry :=
  match e.replacement with
  | some f => { frame := some f, fails := 0, replacement := none }
  | none => rest

/-- The frame on the line has succeeded (R63): its entry empties or takes its replacement, the deferring flag is set, and a
second frame of another entry follows if this was the first of the access. -/
def Slc.succeed (l : Slc) (x : Sending) : Slc :=
  let l := { l with
    deferring := true
    table := if x.withdrawn then l.table else l.table.set x.kind ((l.table.get x.kind).ended .empty)
    sending := none }
  if x.sentBefore = 0 then
    (match firstKind (fun k => k != x.kind && l.holdsFrame k) with
      | some k => l.begin k 1
      | none => l)
  else l

/-- Arbitration was lost (R61): the frame stays in its entry with its count, or its replacement takes the entry. -/
def Slc.lose (l : Slc) (x : Sending) : Slc :=
  { l with
    table := if x.withdrawn then l.table else l.table.set x.kind ((l.table.get x.kind).ended (l.table.get x.kind))
    sending := none }

/-- The failure count of the frame on the line reaches 3 with this failure (R62). -/
def Slc.thirdFailure (l : Slc) (x : Sending) : Bool :=
  !x.withdrawn && decide (3 ≤ (l.table.get x.kind).fails + 1)

/-- A late mismatch (R62): one failure more; the third drops the frame. -/
def Slc.fail (l : Slc) (x : Sending) : Slc :=
  { l with
    table :=
      if x.withdrawn then l.table
      else l.table.set x.kind ((l.table.get x.kind).ended
        (if 3 ≤ (l.table.get x.kind).fails + 1 then .empty
         else { l.table.get x.kind with fails := (l.table.get x.kind).fails + 1 }))
    sending := none }

/-- The outcomes of a first read-back difference (R60). -/
inductive Mismatch where
  | arbitration
  | late
  deriving DecidableEq, Repr

/-- The outcome of a first difference at bit `pos` of the frame on the line (R60); none where the frame has no such bit. -/
def Sending.mismatch (x : Sending) (pos : Nat) : Option Mismatch :=
  match x.bits[pos]? with
  | none => none
  | some b => if b && decide (pos < x.arbitration) then some .arbitration else some .late

/-- The line bits up to a first difference at bit `pos`, the differing bit as read (R45, R60). -/
def Sending.heard (x : Sending) (pos : Nat) : List Bool :=
  x.bits.take pos ++ [!(x.bits.getD pos false)]

/-! ### The receive assembler (R47) -/

/-- What the assembler finds at a line bit. -/
inductive RxEvent where
  | closed (content : List Bool)
  | abort
  | long
  deriving DecidableEq, Repr

/-- The state after a delimiter completes: ASSEMBLE with no content bits. -/
def Rx.opened : Rx := { st := .assemble, content := [], zero := false, ones := 0 }

/-- The content with the bits resolved that are now known to be content: the 0 held back and the run of 1s. -/
def Rx.resolved (r : Rx) : List Bool :=
  r.content ++ (if r.zero then [false] else []) ++ List.replicate r.ones true

/-- Take resolved content: the 30th byte completes an over-long frame (R47). -/
def Rx.keep (content : List Bool) (zero : Bool) : Rx × Option RxEvent :=
  if 240 ≤ content.length then ({ st := .skip, content := [], zero := false, ones := 0 }, some .long)
  else ({ st := .assemble, content := content, zero := zero, ones := 0 }, none)

/-- Whether 30 content bytes have been gathered, the bits held back counted as content. -/
def Rx.isLong (r : Rx) : Bool := r.st == .assemble && decide (240 ≤ r.resolved.length)

/-- The assembler after error LONG: SKIP, with the run of 1s as it stands. -/
def Rx.skipped (r : Rx) : Rx := { st := .skip, content := [], zero := false, ones := r.ones }

/-- The end of a frame at its seventh 1 (R47): ABORT, or LONG if the content, the 0 held back before the 1s counted as content, has
reached 30 bytes. With no content it is the line going idle. The seven 1s are no content: DEDUCED, unsafe (log entry 17). -/
def Rx.sevenOnes (r : Rx) : Rx × Option RxEvent :=
  if r.content = [] ∧ r.zero = false then ({ st := .hunt, content := [], zero := false, ones := 7 }, none)
  else if 240 ≤ r.content.length + boolNat r.zero then ({ st := .skip, content := [], zero := false, ones := 7 }, some .long)
  else ({ st := .hunt, content := [], zero := false, ones := 7 }, some .abort)

/-- One line bit into the assembler (R47). -/
def Rx.bit (r : Rx) (b : Bool) : Rx × Option RxEvent :=
  match r.st with
  | .hunt | .skip =>
    if b then ({ r with ones := min 7 (r.ones + 1) }, none)
    else if r.ones = 6 then (.opened, none)
    else ({ r with ones := 0 }, none)
  | .assemble =>
    if b then
      if 6 ≤ r.ones then r.sevenOnes
      else ({ r with ones := r.ones + 1 }, none)
    else if r.ones = 6 then (.opened, if r.content = [] then none else some (.closed r.content))
    else if r.ones = 5 then Rx.keep r.resolved false
    else Rx.keep r.resolved true

/-- The events among the optional results. -/
def consEvent (e : Option RxEvent) (es : List RxEvent) : List RxEvent :=
  match e with
  | none => es
  | some e => e :: es

/-- A run of line bits into the assembler: the assembler after it, and what it found, in order. -/
def Rx.feed : Rx → List Bool → Rx × List RxEvent
  | r, [] => (r, [])
  | r, b :: bs =>
    let (r1, e) := r.bit b
    let (r2, es) := Rx.feed r1 bs
    (r2, consEvent e es)

/-- The idle count after a run of line bits (R59). -/
def idleAfter (n : Nat) : List Bool → Nat
  | [] => n
  | b :: bs => idleAfter (if b then n + 1 else 0) bs

/-! ### Address and field tests (R49 to R54) -/

/-- A match slot matches a destination (R50). -/
def slotMatches (value mask dest : Byte) : Bool := (dest &&& mask) == (value &&& mask)

/-- The destination matches an enabled match slot (R50). -/
def Slc.addressed (l : Slc) (dest : Byte) : Bool :=
  slotMatches l.ownAddr 0xFF dest || slotMatches 0xFF 0xFF dest
    || (l.group2Mask != 0 && slotMatches l.group2Value l.group2Mask dest)
    || (l.group3Mask != 0 && slotMatches l.group3Value l.group3Mask dest)

/-- The role of an address byte (R50). -/
def roleOf (address : Byte) : Nat := address.toNat / 32

/-- The outcome of tests 6 to 8 of R49 for a kind and payload. -/
inductive FieldTest where
  | ignored
  | wrongLength
  | accepted (msg : StationMsg)
  deriving DecidableEq, Repr

/-- Accept a payload of the length its kind has, else error LENGTH (R53). -/
def ofLength (payload : List Byte) (n : Nat) (msg : StationMsg) : FieldTest :=
  if payload.length = n then .accepted msg else .wrongLength

/-- Tests 6 to 8 of R49: the kind, its payload length and its fields (R53, R54, R65, R66). -/
def fieldTest (kind : Byte) (p : List Byte) : FieldTest :=
  let at16 (i : Nat) : Nat := natOfBytes ((p.drop i).take 2)
  if kind = 0x41 then
    ofLength p 3 (.assign (min 31 (natOfBytes (p.take 1))) (natWord (at16 1)))
  else if kind = 0x42 then
    ofLength p 5 (.offer (natOfBytes (p.take 1)) (min 400 (at16 1)) (max 60 (at16 3)))
  else if kind = 0x43 then ofLength p 4 (.auth (BitVec.ofNat 32 (natOfBytes p)))
  else if kind = 0x44 then
    (match ofLength p 5 (.time (at16 0) (natOfBytes (p.drop 2))) with
      | .accepted (.time d t) => if 86399 < t then .ignored else .accepted (.time d t)
      | other => other)
  else if kind = 0x45 then ofLength p 2 (.pause (at16 0))
  else if kind = 0x46 then ofLength p 0 .resume
  else if kind = 0x47 then ofLength p 1 (.stop (p.headD 0))
  else .ignored

/-- What the receiver makes of a closed content (R49). -/
inductive ContentTest where
  /-- An error is noted (tests 1 to 3 and 7). -/
  | error (e : LineError)
  /-- Discarded or ignored without error (tests 4 to 6, and a TIME out of range). -/
  | dropped
  /-- Offered to the receive queue (test 9). -/
  | offered (f : RxFrame)
  deriving DecidableEq, Repr

/-- Whether a content passes tests 1 to 3 of R49: the frame is complete. -/
def isComplete (content : List Bool) : Bool :=
  content.length % 8 == 0 && decide (40 ≤ content.length) && crc16 content == 0x1D0F

/-- The tests of R49 in their order. -/
def testContent (l : Slc) (content : List Bool) : ContentTest :=
  let bytes := bytesOfBits content
  let dest := bytes.getD 0 0
  let src := bytes.getD 1 0
  let payload := (bytes.drop 3).take (bytes.length - 5)
  if content.length % 8 ≠ 0 then .error .fractional
  else if content.length < 40 then .error .short
  else if crc16 content ≠ 0x1D0F then .error .check
  else if roleOf src = 2 then .dropped
  else if !l.addressed dest then .dropped
  else
    match fieldTest (bytes.getD 2 0) payload with
    | .ignored => .dropped
    | .wrongLength => .error .length
    | .accepted m => .offered ⟨src, m⟩

/-- A complete frame from a talker whose role is not 2 clears the deferring flag (R59). -/
def clearsDeferring (content : List Bool) : Bool :=
  isComplete content && roleOf ((bytesOfBits content).getD 1 0) != 2

/-- Note a line error: LAST_LINE_ERROR and LINE_ERROR (R49). -/
def noteError (e : LineError) (s : State) : State :=
  raiseVp .lineError (s.modSlc fun l => { l with lastError := e })

/-! ### Power-on and restart (R68) -/

/-- The Station Line Controller after power-on. -/
def Slc.afterPowerOn (l : Slc) : Slc := .reset l.group2Value l.group2Mask l.group3Value l.group3Mask

/-- The STOP that waits in the table: the entry's frame, or its replacement while the frame is on the line. -/
def Slc.waitingStop (l : Slc) : Option TxFrame :=
  if l.onLine .stop then l.table.stop.replacement else l.table.stop.frame

/-- The Station Line Controller after a vehicle restart; `keepStop` keeps the STOP that the restart's own close scheduled. -/
def Slc.afterRestart (l : Slc) (keepStop : Bool) : Slc :=
  let fresh := l.afterPowerOn
  if keepStop then
    { fresh with table := { fresh.table with stop := { frame := l.waitingStop, fails := 0, replacement := none } } }
  else fresh

end Sys2Proof.Machine
end

