-- ==== Sys2Proof/Machine/Tariff.lean ====
section
/-! DEFINITION. The Tariff Table and Clock (chapter 8), without the port words that write it. -/
namespace Sys2Proof.Machine

/-! ### The clock (R145, R147) -/

/-- The clock one second later (R145). -/
def Ttc.tick (t : Ttc) : Ttc :=
  if t.second = 86399 then { t with second := 0, day := if t.day = 65535 then 0 else t.day + 1 }
  else { t with second := t.second + 1 }

/-- A time counted in seconds (R147). -/
def ClockTime.count (c : ClockTime) : Nat := c.day * 86400 + c.second

/-- Size of a step, without sign (R147). -/
def stepSize (old new : ClockTime) : Nat :=
  (max old.count new.count) - (min old.count new.count)

/-- Set the clock and its source (R147); a step of more than 2 s is handed to the store while a bank is OPEN. -/
def setClock (new : ClockTime) (source : TimeSource) (s : State) : State :=
  let old : ClockTime := ⟨s.ttc.day, s.ttc.second⟩
  let s := s.modTtc fun t => { t with day := new.day, second := new.second, source := source }
  if 2 < stepSize old new then takeTimeStep old new s else s

/-- A station TIME handed over by the Charge Session Controller (R146). -/
def stationTime (day second : Nat) (s : State) : State :=
  if s.ttc.source = .fleet then s else setClock ⟨day, second⟩ .station s

/-- The staged second: high part × 65,536 + low part, clamped to 86,399 (R146, R150). -/
def stagedSecond (high low : Nat) : Nat := min 86399 (high * 65536 + low)

/-- TIME_SET (R146). -/
def fleetTime (s : State) : State :=
  setClock ⟨s.ttc.timeDay, stagedSecond s.ttc.timeHigh s.ttc.timeLow⟩ .fleet s

/-! ### The table (R148, R150) -/

/-- The entry with the greatest start that `p` allows, starting from `best`. -/
def latestEntry (p : TariffEntry → Bool) (best : Option TariffEntry) : List TariffEntry → Option TariffEntry
  | [] => best
  | e :: es =>
    latestEntry p
      (if p e then
        (match best with
          | none => some e
          | some b => if b.start ≤ e.start then some e else some b)
       else best) es

/-- The band for a second of day (R148). -/
def bandAt (table : List TariffEntry) (second : Nat) : Band :=
  match latestEntry (fun e => decide (e.start ≤ second)) none table with
  | some e => e.band
  | none =>
    match latestEntry (fun _ => true) none table with
    | some e => e.band
    | none => 0

/-- The start PENDING_ADD takes: the staged start floored to a multiple of 60 (R150). -/
def addStart (t : Ttc) : Nat := stagedSecond t.stagedHigh t.stagedLow / 60 * 60

/-- Whether a table holds an entry with this start. -/
def holdsStart (table : List TariffEntry) (start : Nat) : Bool := table.any fun e => e.start == start

/-- The table with the band of the entry at `start` replaced. -/
def replaceBand (table : List TariffEntry) (start : Nat) (band : Band) : List TariffEntry :=
  table.map fun e => if e.start = start then { e with band := band } else e

/-- The table with an entry inserted in start order. -/
def insertEntry : List TariffEntry → TariffEntry → List TariffEntry
  | [], e => [e]
  | x :: xs, e => if e.start < x.start then e :: x :: xs else x :: insertEntry xs e

/-- Whether a PENDING_ADD meets a full table (R150). -/
def addMeetsFull (t : Ttc) : Bool :=
  !holdsStart t.pendingTable (addStart t) && decide (8 ≤ t.pendingTable.length)

/-- The pending table after an accepted PENDING_ADD (R150). -/
def addPending (t : Ttc) (band : Band) : List TariffEntry :=
  if holdsStart t.pendingTable (addStart t) then replaceBand t.pendingTable (addStart t) band
  else insertEntry t.pendingTable ⟨addStart t, band⟩

/-! ### The period start (R151, R152) -/

/-- The commit takes effect (R151): table, prices, version, mark. -/
def Ttc.commit (t : Ttc) : Ttc :=
  { t with table := t.pendingTable, prices := t.pendingPrices, version := (t.version + 1) % 256, commitMark := false }

/-- Step 1 of R152: a marked commit takes effect, with its record and its event. -/
def tariffCommitNow (s : State) : State :=
  if s.ttc.commitMark then raiseFp .tariff (recordTariff (s.modTtc Ttc.commit)) else s

/-- The band of a period that starts now (R152 step 3). -/
def Ttc.bandNow (t : Ttc) : Band := if t.source = .none then 0 else bandAt t.table t.second

/-- Steps 2 to 6 of R152: masks in force and the period values. -/
def Ttc.startPeriod (t : Ttc) : Ttc :=
  { t with
    tractionMask := t.tractionWritten
    heatingMask := t.heatingWritten
    band := t.bandNow
    price := t.prices.get t.bandNow
    timeUnset := t.source == .none
    startDay := t.day
    startSecond := t.second }

/-- The Tariff Table and Clock after power-on (R144). -/
def Ttc.afterPowerOn (t : Ttc) : Ttc := .reset t.table t.prices t.version t.tractionWritten t.heatingWritten

end Sys2Proof.Machine
end

