-- ==== Sys2Proof/Machine/Session.lean ====
section
/-! DEFINITION. The Charge Session Controller (chapter 1): entries to states, the hold set, stops, closes, the insulation answer,
and the plug, supply and restart parts that are its own. -/
namespace Sys2Proof.Machine

/-! ### Entering a state -/

/-- The session enters a state: SESSION is raised by the change (R182), a leaving of TRANSFER makes the battery share 0 (R35),
and an entry to TRANSFER changes the heater's mode (R95, R106). -/
def enterSession (n : Session) (s : State) : State :=
  if s.csc.session = n then s
  else
    let old := s.csc.session
    let s := raiseVp .session (s.modCsc fun c => { c with session := n })
    let s := if old = .transfer then s.modAlc fun a => { a with share := 0 } else s
    if n = .transfer then heaterMove (fun b => b.enterTransfer s.pins.supplyFail s.alc.timer.isSome) s else s

/-- The address byte of role vehicle with an outlet (R51). -/
def vehicleAddress (outlet : Nat) : Byte := BitVec.ofNat 8 (64 + outlet)

/-- Load match slot 0 (R51). -/
def loadSlot0 (outlet : Nat) (s : State) : State := s.modSlc fun l => { l with ownAddr := vehicleAddress outlet }

/-- Schedule a HELLO in LINKING: the count rises, up to 3, and the timer starts (R3). -/
def sendHello (s : State) : State :=
  (scheduleHello s).modCsc fun c =>
    { c with
      helloCount := min 3 (c.helloCount + 1)
      helloT := some (if c.absentRaised then Config.helloSlowMs else Config.helloMs) }

/-- Enter LINKING (R3). -/
def enterLinking (s : State) : State :=
  sendHello (enterSession .linking
    ((loadSlot0 31 s).modCsc fun c => { c with helloCount := 0, absentRaised := false }))

/-- The HELLO timer expires (R3). -/
def helloExpiry (s : State) : State :=
  if s.csc.absentRaised || s.csc.helloCount < 3 then sendHello s
  else
    raiseVp .stationAbsent (s.modCsc fun c => { c with absentRaised := true, helloT := some Config.helloSlowMs })

/-! ### The hold set (R15, R9) -/

/-- R9: TRANSFER and HOLD follow the hold set. -/
def followHolds (s : State) : State :=
  match s.csc.session with
  | .transfer => if s.csc.holds.isEmpty then s else enterSession .hold s
  | .hold => if s.csc.holds.isEmpty then enterSession .transfer s else s
  | _ => s

/-- Add (`present`) or remove a hold reason (R15). -/
def changeHold (r : HoldReason) (present : Bool) (s : State) : State :=
  if !s.csc.session.keepsHolds || s.csc.holds.has r == present then s
  else
    let s := recordHold present r (s.modCsc fun c => { c with holds := c.holds.put r present })
    let s := if s.csc.session.isLive then scheduleRequest s else s
    raiseVp .hold (followHolds s)

/-- HOLD is raised for reasons that enter or leave the hold set without a record of their own, if there are any (R182).
DEDUCED, unsafe (log entry 26). -/
def holdEvent (changed : Bool) (s : State) : State := if changed then raiseVp .hold s else s

/-! ### Stops and closes (R10 to R12) -/

/-- Record a stop reason if none is recorded; a first recording other than UNPLUGGED schedules the STOP frame (R10). -/
def recordStop (r : StopReason) (s : State) : State :=
  match s.csc.stopReason with
  | some _ => s
  | none =>
    let s := s.modCsc fun c => { c with stopReason := some r }
    if r = .unplugged then s else scheduleStop r.code s

/-- Cut the converter (R11, R41, R44). -/
def cutConverter (s : State) : State := cutSetpoint (s.modCsc fun c => { c with enable := false })

/-- Enter STOPPING (R12). -/
def enterStopping (s : State) : State :=
  enterSession .stopping (s.modCsc fun c => { c with stoppingT := some Config.stoppingMs })

/-- Stop a live session; `cut` says whether the cause cuts the converter (R10, R11). The notice of the cut is taken while the session
is still live, before STOPPING is entered (R41, R73, R76). DESIGN CHOICE, unsafe (log entry 5). -/
def stopLive (r : StopReason) (cut : Bool) (s : State) : State :=
  let s := recordStop r s
  enterStopping (if cut then cutConverter s else s)

/-- Return to LINKING (R18). DEDUCED in its corners, unsafe (log entries 25, 26). -/
def returnToLinking (s : State) : State :=
  let s := (withdrawCheck (holdEvent (!s.csc.holds.isEmpty) s)).modCsc fun c =>
    { c with
      checkingT := none, holds := .empty, auth := false, authRef := 0xFFFFFFFF, identity := absentWord, offer := none,
      statusT := none, pauseT := none, silence := none, linkAge := none }
  enterLinking (s.modSlc fun l => (l.withdraw .status).withdraw .request)

/-- Enter ENDED; a silence of 10,000 ms or more returns to LINKING at once (R18). -/
def enterEnded (s : State) : State :=
  let s := enterSession .ended s
  if s.csc.silence = some Config.lostMs then returnToLinking s else s

/-- Steps 1 to 4 of a close (R11); no METER frame is scheduled when the close is made by an unplug. The removal of NO_VOLTAGE raises
HOLD (log entry 26). -/
def closeSteps (unplug : Bool) (s : State) : State :=
  let s := stopAllocation (s.modCsc fun c => { c with enable := false })
  let s :=
    match openSession s with
    | none => s
    | some n =>
      let s := closeBank s.csc.stopReason s
      if unplug then s else scheduleMeter n s
  (holdEvent s.csc.holds.noVoltage s).modCsc fun c =>
    { c with
      auth := false, authRef := 0xFFFFFFFF, holds := c.holds.put .noVoltage false,
      readyT := none, stoppingT := none, requestT := none, meterT := none }

/-- Close a session and enter ENDED (R11). -/
def closeSession (s : State) : State := enterEnded (closeSteps false s)

/-- End the wait of CHECKING: its timer stops and the request to the monitor is withdrawn (R6). -/
def endChecking (s : State) : State := withdrawCheck (s.modCsc fun c => { c with checkingT := none })

/-- Close a session from CHECKING with a stop reason (R6). -/
def closeChecking (r : StopReason) (s : State) : State := closeSession (recordStop r (endChecking s))

/-! ### Starting (R5 to R8, R19) -/

/-- The five conditions of R5. -/
def startConditions (s : State) : Bool :=
  s.csc.auth && offerValid s && !s.asm.subst.isActive && !s.pins.fault && !s.pins.supplyFail

/-- Enter CHECKING (R5). -/
def enterChecking (s : State) : State :=
  enterSession .checking (requestCheck (s.modCsc fun c =>
    { c with stopReason := none, unrecorded := false, checkingT := some Config.checkingMs }))

/-- The check of R5, made in READY and ENDED. -/
def checkStart (s : State) : State :=
  if (s.csc.session = .ready ∨ s.csc.session = .ended) ∧ startConditions s then enterChecking s else s

/-- A rise of converter ready (R8). -/
def readyRise (s : State) : State :=
  if s.csc.session = .starting then
    let s := s.modCsc fun c => { c with readyT := none, meterT := some Config.meterMs }
    enterSession (if s.csc.holds.isEmpty then .transfer else .hold) s
  else s

/-- LINK_LOST: a live session with LINK_LOSS 60,000 ms old stops (R19). -/
def testLinkLost (s : State) : State :=
  if s.csc.session.isLive ∧ s.csc.linkAge = some Config.linkLostMs then stopLive .linkLost false s else s

/-- Steps 3 to 5 of R7, with what entry to STARTING meets at once: a LINK_LOSS already 60,000 ms old (R19) and a converter that
is ready already (R8). A converter fault at entry has closed the session by R6 before.
The REQUEST still carries CHECKING: DEDUCED,
unsafe (log entries 14, 25). -/
def beginStarting (unrecorded : Bool) (s : State) : State :=
  let s := s.modCsc fun c => { c with unrecorded := unrecorded, enable := true, readyT := some Config.readyMs }
  let s := s.modAlc fun a => { a with timer := some Config.allocationMs, setpoint := 0 }
  let s := testLinkLost (enterSession .starting (scheduleRequest s))
  if s.pins.ready then readyRise s else s

/-- Entry to STARTING (R7). -/
def enterStarting (s : State) : State :=
  let s := s.modCsc fun c => { c with checkingT := none }
  let t := requestBank s.csc.identity s.csc.authRef s
  match bankAnswer s with
  | .refused => closeSession (recordStop .noRecordSpace t)
  | .opened => beginStarting false t
  | .unrecorded => beginStarting true t

/-- The answer of a counting completion to a pending CHECK (R6, R89). The UNKNOWN row is a DESIGN CHOICE, safe (log entry 20). -/
def answerCheck (s : State) : State :=
  let s := withdrawCheck s
  if s.csc.session = .checking then
    match s.imn.verdict with
    | .unknown => s
    | .fault => closeChecking .insulationFault s
    | _ => if s.pins.fault then closeChecking .converterFault s else enterStarting s
  else s

/-! ### Causes from other blocks -/

/-- The controller takes a verdict (R10, R81): FAULT with cause BUS stops a live session, ends CHECKING, whichever cycle it came from,
and cuts the converter in STOPPING. -/
def cscTakesVerdict (s : State) : State :=
  if s.imn.verdict = .fault ∧ s.imn.cause = .bus then
    if s.csc.session.isLive then stopLive .insulationFault true s
    else if s.csc.session = .checking then closeChecking .insulationFault s
    else if s.csc.session = .stopping then cutConverter s
    else s
  else s

/-- The barrier link goes DOWN (R19). -/
def cscLinkDown (s : State) : State :=
  changeHold .linkLoss true
    (if s.csc.session.keepsHolds then s.modCsc fun c => { c with linkAge := some 0 } else s)

/-- The barrier link goes UP (R19). -/
def cscLinkUp (s : State) : State := changeHold .linkLoss false (s.modCsc fun c => { c with linkAge := none })

/-- BAND_WAIT at a period start (R17). -/
def cscTakesBand (s : State) : State := changeHold .bandWait (!inMask s.ttc.tractionMask s.ttc.band) s

/-- The ramp of STOPPING ends at a period result (R12). -/
def rampEnds (p : PeriodResult) : Bool := p.stopping && decide (0 < p.n) && decide (p.meanIobc < 500)

/-- The controller takes a period result (R12). -/
def cscTakesResult (p : PeriodResult) (s : State) : State :=
  if s.csc.session = .stopping ∧ rampEnds p then closeSession s else s

/-- Converter ready falls (R10). -/
def cscReadyFall (s : State) : State :=
  if s.csc.session = .transfer ∨ s.csc.session = .hold then stopLive .converterFault true s else s

/-- Converter fault is asserted (R10, R11). -/
def cscFault (s : State) : State :=
  if s.csc.session.isLive then stopLive .converterFault true s
  else if s.csc.session = .stopping then cutConverter s
  else s

/-! ### Unplug, supply and restart (R2, R13, R14) -/

/-- Every timer of R1 stops. -/
def Csc.stopTimers (c : Csc) : Csc :=
  { c with
    pauseT := none, silence := none, linkAge := none, checkingT := none, readyT := none, stoppingT := none, requestT := none,
    meterT := none, statusT := none, helloT := none }

/-- A rise of plug detect (R2). -/
def cscPlugRise (s : State) : State := if s.csc.session = .unplugged then enterLinking s else s

/-- A fall of plug detect (R2). UNPLUGGED is recorded where none stands, and reasons that the fall takes from the hold set raise
HOLD: DEDUCED, unsafe (log entries 16, 26). -/
def cscPlugFall (s : State) : State :=
  if s.csc.session = .unplugged then s
  else
    let s := holdEvent (!s.csc.holds.isEmpty) s
    let s := recordStop .unplugged (cutConverter s)
    let s := if s.csc.session.isOpen then closeSteps true s else s
    let s := (withdrawCheck s).modSlc Slc.withdrawAll
    enterSession .unplugged (s.modCsc fun c =>
      { c.stopTimers with
        holds := .empty, auth := false, authRef := 0xFFFFFFFF, identity := absentWord, offer := none })

/-- Record `r` if no stop reason is recorded, and schedule a STOP with the reason then recorded (R13, R14). -/
def stopAlways (r : StopReason) (s : State) : State :=
  let s := s.modCsc fun c => { c with stopReason := some (c.stopReason.getD r) }
  scheduleStop (stopCode s.csc.stopReason) s

/-- A falling supply-fail warning (R13). -/
def cscSupplyFail (s : State) : State :=
  if s.csc.session.isOpen then closeSession (stopAlways .supplyLoss (cutConverter s))
  else if s.csc.session = .checking then closeChecking .supplyLoss s
  else s

/-- The controller's part of a vehicle restart (R14, R1), before the plug level is taken. The dispatcher is free afterwards, so that a
frame in handling is dropped without its effect (R21). DESIGN CHOICE, unsafe (log entry 31). -/
def cscRestart (s : State) : State :=
  let s :=
    if s.csc.session.isOpen then closeSession (cutConverter (stopAlways .vehicleRestart s))
    else if s.csc.session = .checking then closeSession (cutConverter (stopAlways .vehicleRestart (endChecking s)))
    else s
  (enterSession .unplugged s).modCsc fun _ => .reset

end Sys2Proof.Machine
end

