-- ==== Sys2Proof/Machine/Verdict.lean ====
section
/-! DEFINITION. The end of an averaging phase and the completion of a cycle (R75, R78 to R89), with the hand-overs of a verdict
change. -/
namespace Sys2Proof.Machine

/-- Phase averages of phase A (R75). -/
def Imn.averagesA (m : Imn) : AveragesA := ⟨m.sumP / 256, m.sumN / 256⟩

/-- Phase averages of phase B (R75). -/
def Imn.averagesB (m : Imn) : AveragesB := ⟨m.sumP / 256, m.sumN / 256, m.sumV / 256⟩

/-- The freshness flags and the requests after a counting completion (R82, R83): a RETEST that the cycle served is cleared unless a
retest runs. -/
def Imn.countCompletion (m : Imn) (retestWasOn : Bool) : Imn :=
  { m with
    stale := false
    fresh := true
    trigger := none
    retestPending := if retestWasOn then m.retestPending else m.retestPending && !m.servesRetest }

/-- A running retest counts a completion not marked DISTURBED (R82). -/
def retestCompletion (minimum w f : Int) (s : State) : State :=
  match s.imn.retest with
  | none => s
  | some r =>
    if s.imn.servesRetest then
      (if givesUp r (goodAfter r minimum f) then raiseVp .insulation else id)
        (s.modImn fun m => m.countRetest r (goodAfter r minimum f) (decide (w ≤ minimum)))
    else s

/-- The verdict or the cause has changed (R89). -/
def verdictChanged (before after : Imn) : Bool := before.verdict != after.verdict || before.cause != after.cause

/-- What a judged completion hands to the heater (R85, R87): the branch fault or the release of a pair, the answer of an unlock. -/
def handHeater (before : Imn) (minimum w : Int) (s : State) : State :=
  match before.kind with
  | .branch => if s.imn.verdict = .fault ∧ s.imn.cause = .heater then heaterBranchFault s else releaseHeater s
  | .unlock => answerUnlockCycle (decide (w ≤ minimum)) s
  | .normal => s

/-- The four hand-overs of R89, in the order listed or in the reverse order; those to the controller, the store and the port are
made only at a change. -/
def handVerdict (order : HandOver) (before : Imn) (minimum : Nat) (w : Int) (s : State) : State :=
  let changed := verdictChanged before s.imn
  let m := s.imn
  let toCsc (s : State) : State := if changed then cscTakesVerdict s else s
  let toHeater (s : State) : State := handHeater before minimum w s
  let toStore (s : State) : State :=
    if changed then recordInsulation m.verdict m.cause (before.recordMinimum m minimum) s else s
  let toPort (s : State) : State := if changed then raiseVp .insulation s else s
  match order with
  | .listed => toPort (toStore (toHeater (toCsc s)))
  | .reversed => toCsc (toHeater (toStore (toPort s)))

/-- The monitor's own part of a judged completion: verdict, retest counts, flags. -/
def judgeCompletion (minimum : Nat) (w f : Int) (s : State) : State :=
  let on := s.imn.retest.isSome
  (retestCompletion minimum w f (s.modImn fun m => m.judge minimum w f)).modImn fun m => m.countCompletion on

/-- A completion not marked DISTURBED (R80 to R89), with the window closed: `res` holds Rp and Rn, `b` the phase B averages.
The order is a DESIGN CHOICE,
unsafe (log entry 5). -/
def completeCycle (order : HandOver) (res : Nat × Nat) (b : AveragesB) (s : State) : State :=
  let minimum := min res.1 res.2
  let w := s.imn.warnLimit b
  let f := s.imn.faultLimit b
  let s := takeMinimum minimum (quiesce (s.modImn fun m => m.record (some res) s.ttc))
  if s.imn.triggers minimum w then triggerBranch minimum f s
  else
    let before := s.imn
    let s := handVerdict order before minimum w (judgeCompletion minimum w f s)
    imnIdle (if before.servesCheck && before.checkPending then answerCheck s else s)

/-- The end of phase A: the averages are kept and the window closes; SETTLE_B. -/
def endPhaseA (s : State) : State :=
  (closeWindow (s.modImn fun m => { m with avgA := some m.averagesA })).modImn fun m => m.enterSettle .settleB

/-- The end of phase B: the window closes and the cycle completes. -/
def endPhaseB (order : HandOver) (s : State) : State :=
  let b := s.imn.averagesB
  let s := closeWindow (s.modImn fun m => { m with avgB := some b })
  match s.imn.avgA with
  | none => completeDisturbed s
  | some a =>
    match resistances s.imn.bridge a b with
    | none => completeDisturbed s
    | some res => completeCycle order res b s

/-- AVERAGING_END (R75): nothing unless the 256th counting slot of a phase has been taken. -/
def execAveragingEnd (order : HandOver) (s : State) : Host.Outcome State Fault Refusal :=
  .next
    (if s.imn.count = Config.averagingSlots then
      (match s.imn.st with
        | .averageA => endPhaseA s
        | .averageB => endPhaseB order s
        | _ => s)
     else s)

end Sys2Proof.Machine
end

