-- ==== Sys2Proof/Machine/Slots.lean ====
section
/-! DEFINITION. The commands of the sense die, the barrier, the metrology slot and the period (chapters 6, 7 and 8): SENSE_DIE_START,
SET_TIME, BARRIER_FRAME_ARRIVAL, METROLOGY_SLOT and PERIOD_CLOSE. -/
namespace Sys2Proof.Machine

/-! ### Sense die and barrier -/

/-- SENSE_DIE_START (R108). -/
def execSenseDieStart (s : State) : Host.Outcome State Fault Refusal := .next (s.modSfe fun _ => .reset)

/-- SET_TIME (R108, R109). -/
def execSetTime (conv : Oct Conversions) (s : State) : Host.Outcome State Fault Refusal :=
  .next (s.modSfe fun f => f.setTime conv)

/-- BARRIER_FRAME_ARRIVAL (R111). -/
def execBarrierFrameArrival (frame : BarrierFrame) (s : State) : Host.Outcome State Fault Refusal :=
  .next (s.modBle fun b => b.arrive frame)

/-! ### The first slot of a period (R121, R126, R152, R102) -/

/-- The heater's BAND at a period start (R98). -/
def Bhc.takeBand (b : Bhc) (supplyFail allowed : Bool) : Bhc :=
  { b with waits := { b.waits with band := b.mode == HeaterMode.plugged && !allowed } }.evaluate supplyFail false

/-- The heater takes the band and its mask (R152 step 7). -/
def heaterTakesBand (s : State) : State :=
  heaterMove (fun b => b.takeBand s.pins.supplyFail (inMask s.ttc.heatingMask s.ttc.band)) s

/-- What the first slot of a period does before its values are added: an ARMED substitution runs, the tariff answers, the
Metering Engine takes its latches, the heater's peak begins from the duty grant in force, and the band is handed over. -/
def firstSlot (s : State) : State :=
  let s := (tariffCommitNow (s.modAsm Asm.startRunning)).modTtc Ttc.startPeriod
  let s := (startPeriod s).modBhc fun b => { b with peakGrant := b.dutyGrant }
  heaterTakesBand (cscTakesBand s)

/-! ### A change of the link (R113) -/

/-- The hand-overs of the link going DOWN, in the order listed or in the reverse order. -/
def handLinkDown (order : HandOver) (s : State) : State :=
  match order with
  | .listed => raiseVp .link (recordLink false (takeNotice (cscLinkDown s)))
  | .reversed => cscLinkDown (takeNotice (recordLink false (raiseVp .link s)))

/-- The hand-overs of the link going UP, in the order listed or in the reverse order. -/
def handLinkUp (order : HandOver) (s : State) : State :=
  match order with
  | .listed => raiseVp .link (recordLink true (cscLinkUp s))
  | .reversed => cscLinkUp (recordLink true (raiseVp .link s))

/-- The slot takes its set, and a change of the link is handed over at once (R112, R113). -/
def takeSet (order : HandOver) (s : State) : State :=
  let s := s.modBle Ble.take
  let change := s.ble.linkChange
  let s := s.modBle fun b => b.setLink change
  match change with
  | .none => s
  | .down => handLinkDown order s
  | .up => handLinkUp order s

/-! ### The slot -/

/-- Slot assembly of the slot, with DISAGREE raised when the flag sets (R117). -/
def assembleSlot (s : State) : State :=
  let t := s.modAsm fun a => a.takeSlot s.ble
  if t.asm.disagree && !s.asm.disagree then raiseVp .disagree t else t

/-- The overcurrent test of a slot (R101). -/
def overcurrentTest (v : SlotValues) (s : State) : State :=
  if overcurrentAt s v then withNotice (lockHeater .overcurrent) s else s

/-- The results of the slot go to the Metering Engine, the Insulation Monitor and the heater (R118), in this order; so the notice of
an overcurrent at the 256th counting slot restarts the phase (R76). DESIGN CHOICE, unsafe (log entry 39). -/
def handSlot (v : SlotValues) (s : State) : State :=
  overcurrentTest v ((s.modMtr fun m => m.takeSlot v).modImn fun m => m.takeSlot v)

/-- The effective modes of all eight channels (R110). -/
def effectiveModes (s : State) : Oct ChannelMode := Oct.ofFn fun c => effectiveMode s c

/-- The mode settings sent across the barrier at the slot, taken by the sense die if they are intact (R110). -/
def sendModes (intact : Bool) (s : State) : State :=
  if intact then s.modSfe fun f => { f with received := effectiveModes s } else s

/-- One metrology slot. In the first slot of a period the steps of the period start come before the set is taken and a link change
handed over. DESIGN CHOICE, unsafe (log entry 5). -/
def metrologySlot (order : HandOver) (intact : Bool) (s : State) : State :=
  let s := takeSet order (if s.mtr.slot = 1 then firstSlot s else s)
  let t := assembleSlot s
  let t := handSlot (slotValues s.asm t.asm s.ble) t
  sendModes intact ((t.modBle Ble.clearNew).modAsm Asm.advance)

/-- METROLOGY_SLOT (R112 to R118, R126 to R128, R152): nothing while the close of a full period is due. -/
def execMetrologySlot (order : HandOver) (intact : Bool) (s : State) : Host.Outcome State Fault Refusal :=
  .next (if s.mtr.slot ≤ Config.slotsPerPeriod then metrologySlot order intact s else s)

/-! ### The period close (R129, R140, R122) -/

/-- The heater takes a period result, with its notice. -/
def heaterTakesResult (p : PeriodResult) (s : State) : State := withNotice (heaterTakesResultCore p) s

/-- The six hand-overs of R140, in the order listed or in the reverse order. -/
def handResult (order : HandOver) (p : PeriodResult) (s : State) : State :=
  match order with
  | .listed =>
    cscTakesResult p (imnTakesResult p (heaterTakesResult p
      ((recordsTakeResult p (s.modTtc Ttc.tick)).modAlc fun a => a.takeResult p)))
  | .reversed =>
    (recordsTakeResult p ((heaterTakesResult p (imnTakesResult p (cscTakesResult p s))).modAlc fun a => a.takeResult p)).modTtc
      Ttc.tick

/-- The wait reason SUBSTITUTION follows the active condition (R98, R121). -/
def heaterTakesSubstitution (active : Bool) (s : State) : State :=
  heaterMove (fun b => { b with waits := { b.waits with substitution := active } }.evaluate s.pins.supplyFail false) s

/-- The substitution turns OFF: SUBST_DONE with CANCELLED as `cancelled`, the heater is told, and R5 is checked (R122). -/
def endSubstitution (cancelled : Bool) (s : State) : State :=
  checkStart (heaterTakesSubstitution false (raiseFp .substDone (s.modAsm fun a =>
    { a with subst := .off, substituting := false, cancelled := false, doneCancelled := cancelled })))

/-- One period close. -/
def periodClose (order : HandOver) (s : State) : State :=
  let run := s.bhc.run.isSome
  let p := s.mtr.result run
  let s := handResult order p (s.modMtr fun m => m.closed run)
  if s.asm.subst = .ending then endSubstitution s.asm.cancelled s else s

/-- PERIOD_CLOSE (R129 to R140, R122): nothing before the 4,000th slot of the period has been taken. -/
def execPeriodClose (order : HandOver) (s : State) : Host.Outcome State Fault Refusal :=
  .next (if s.mtr.slot = Config.slotsPerPeriod + 1 then periodClose order s else s)

end Sys2Proof.Machine
end

