-- ==== Sys2Proof/Machine/Station.lean ====
section
/-! DEFINITION. The commands of the station line (chapter 3) and of the frame dispatcher (R21 to R23). -/
namespace Sys2Proof.Machine

/-! ### The receive queue and the dispatcher (R55, R21) -/

/-- A free dispatcher takes the oldest queued frame (R21); one that it takes in UNPLUGGED is marked, to be discarded (R2, R55). -/
def dispatcherTake (s : State) : State :=
  match s.csc.dispatcher, s.slc.queue with
  | none, f :: rest =>
    (s.modSlc fun l => { l with queue := rest }).modCsc fun c =>
      { c with dispatcher := some f, takenUnplugged := c.session == .unplugged }
  | _, _ => s

/-- The placement of a station's frame restarts the silence timer and removes STATION_SILENT (R18). -/
def hearStation (s : State) : State :=
  changeHold .stationSilent false (s.modCsc fun c => { c with silence := c.silence.map fun _ => 0 })

/-- A frame is offered to the receive queue (R55). -/
def offerFrame (f : RxFrame) (s : State) : State :=
  if s.slc.queue.length < 2 then
    let s := s.modSlc fun l => { l with queue := l.queue ++ [f] }
    dispatcherTake (if roleOf f.src = 1 then hearStation s else s)
  else raiseVp .rxLost s

/-! ### Line bits (R45, R47, R49) -/

/-- A content closed by a delimiter (R49). -/
def closeContent (content : List Bool) (s : State) : State :=
  let s := if clearsDeferring content then s.modSlc fun l => { l with deferring := false } else s
  match testContent s.slc content with
  | .error e => noteError e s
  | .dropped => s
  | .offered f => offerFrame f s

/-- What the receiver does at an event of the assembler. -/
def takeRxEvent (s : State) : RxEvent → State
  | .closed content => closeContent content s
  | .abort => noteError .abort s
  | .long => noteError .long s

/-- A run of line bits: the assembler and the idle count take every bit, and the receiver acts on what was found. Bits that come while
the part's own frame is on the line are not compared with it, and leave it there (R60). DESIGN CHOICE, unsafe (log entry 34). -/
def lineBits (bits : List Bool) (s : State) : State :=
  let r := s.slc.rx.feed bits
  r.2.foldl takeRxEvent (s.modSlc fun l => { l with rx := r.1, idle := idleAfter l.idle bits })

/-- The line high for seven bit times. -/
def sevenOnes : List Bool := List.replicate 7 true

/-- CONTENT_CLOSED (R49). -/
def execContentClosed (bits : List Bool) (s : State) : Host.Outcome State Fault Refusal :=
  .next (lineBits (bits ++ delimiter) s)

/-- ERROR_ABORT (R47). -/
def execErrorAbort (bits : List Bool) (s : State) : Host.Outcome State Fault Refusal :=
  .next (lineBits (bits ++ sevenOnes) s)

/-- The 30th content byte has completed, counting the bits the assembler still holds back: error LONG (R47). Nothing where the
content is shorter, or where the error has been noted already. -/
def completeLong (s : State) : State :=
  if s.slc.rx.isLong then noteError .long (s.modSlc fun l => { l with rx := l.rx.skipped }) else s

/-- ERROR_LONG (R47). -/
def execErrorLong (bits : List Bool) (s : State) : Host.Outcome State Fault Refusal :=
  .next (completeLong (lineBits bits s))

/-- DELIMITER_COMPLETES (R47). -/
def execDelimiterCompletes (s : State) : Host.Outcome State Fault Refusal := .next (lineBits delimiter s)

/-- LINE_GOING_IDLE (R47). -/
def execLineGoingIdle (s : State) : Host.Outcome State Fault Refusal := .next (lineBits sevenOnes s)

/-! ### The transmitter (R58 to R63) -/

/-- An access begins where one is due (R59). -/
def beginAccess (s : State) : State :=
  match s.slc.accessDue with
  | none => s
  | some k => s.modSlc fun l => l.begin k 0

/-- The line stays high for up to `n` further bit times (R59): the requirement is taken afresh before each of them and after the last,
and the bit times end where an access begins, for the part then drives the line. DESIGN CHOICE, unsafe (log entry 34). -/
def awaitAccess : Nat → State → State
  | 0, s => beginAccess s
  | n + 1, s => if s.slc.accessDue.isSome then beginAccess s else awaitAccess n (lineBits [true] s)

/-- TX_ACCESS_START (R59): the line is high for up to `ones` bit times more, until an access begins. -/
def execTxAccessStart (ones : Nat) (s : State) : Host.Outcome State Fault Refusal := .next (awaitAccess ones s)

/-- FRAME_SUCCESS (R63, R64): the receiver has heard the whole frame; nothing while no frame is on the line. -/
def execFrameSuccess (s : State) : Host.Outcome State Fault Refusal :=
  .next
    (match s.slc.sending with
      | none => s
      | some x => (lineBits x.bits s).modSlc fun l => l.succeed x)

/-- ARBITRATION_LOST (R60, R61): nothing unless a difference at bit `pos` is a loss of arbitration. -/
def execArbitrationLost (pos : Nat) (s : State) : Host.Outcome State Fault Refusal :=
  .next
    (match s.slc.sending with
      | none => s
      | some x =>
        if x.mismatch pos = some .arbitration then (lineBits (x.heard pos) s).modSlc fun l => l.lose x else s)

/-- LATE_MISMATCH (R60, R62): nothing unless a difference at bit `pos` is a late mismatch; the third failure raises LINE_FAULT. -/
def execLateMismatch (pos : Nat) (s : State) : Host.Outcome State Fault Refusal :=
  .next
    (match s.slc.sending with
      | none => s
      | some x =>
        if x.mismatch pos = some .late then
          let third := s.slc.thirdFailure x
          let s := (lineBits (x.heard pos) s).modSlc fun l => l.fail x
          if third then raiseVp .lineFault s else s
        else s)

/-! ### The effects of station frames (R4, R16, R22, R23) -/

/-- The hold set READY begins with (R4 step 6). -/
def readyHolds (s : State) : HoldSet :=
  { HoldSet.empty with
    offerZero := !offerValid s
    linkLoss := !s.ble.linkUp
    bandWait := !inMask s.ttc.tractionMask s.ttc.band }

/-- ASSIGN in LINKING (R4): READY is entered. -/
def assignEntry (outlet : Nat) (identity : Word) (s : State) : State :=
  let s := (loadSlot0 outlet s).modCsc fun c => { c with identity := identity, helloT := none, silence := some 0 }
  let s := scheduleStatus (s.modSlc fun l => l.withdraw .hello)
  let h := readyHolds s
  let s := s.modCsc fun c => { c with holds := h, linkAge := if h.linkLoss then some 0 else none }
  enterSession .ready (holdEvent (!h.isEmpty) s)

/-- ASSIGN in READY and ENDED (R4): a new outlet and identity. -/
def readdress (outlet : Nat) (identity : Word) (s : State) : State :=
  (loadSlot0 outlet s).modCsc fun c => { c with identity := identity }

/-- The effect of an ASSIGN (R4, R22): outlet 31 is ignored.
The STATUS frame is built first: DEDUCED, unsafe (log entries 13, 26). -/
def takeAssign (outlet : Nat) (identity : Word) (s : State) : State :=
  if 31 ≤ outlet then s
  else
    match s.csc.session with
    | .linking => assignEntry outlet identity s
    | .ready | .ended => readdress outlet identity s
    | _ => s

/-- The effect of an OFFER (R22, R23, R17, R5). -/
def takeOffer (o : Offer) (s : State) : State :=
  if s.csc.session = .unplugged then s
  else
    let changed := s.csc.offer != some o
    let s := s.modCsc fun c => { c with offer := some o }
    let s := if changed then reboundRequest s else s
    checkStart (changeHold .offerZero (!offerValid s) s)

/-- The effect of an AUTH (R22): while a bank is OPEN the reference also becomes that of its summary. -/
def takeAuth (ref : BitVec 32) (s : State) : State :=
  if s.csc.session = .unplugged then s
  else
    let s := s.modCsc fun c => { c with authRef := ref }
    if s.csc.session.isOpen && (openBank s).isSome then s.modBrs fun r => { r with work := { r.work with ref := ref } } else s

/-- The effect of a TIME (R22, R146). -/
def takeTime (day second : Nat) (s : State) : State :=
  if s.csc.session = .unplugged then s else stationTime day second s

/-- The effect of a station PAUSE (R16, R22). -/
def takePause (seconds : Nat) (s : State) : State :=
  if s.csc.session.keepsHolds then
    changeHold .stationPause true
      (s.modCsc fun c => { c with pauseT := if seconds = 0 then none else some (seconds * 1000) })
  else s

/-- The effect of a station RESUME (R16, R22). -/
def takeResume (s : State) : State :=
  if s.csc.session.keepsHolds && s.csc.holds.stationPause then
    changeHold .stationPause false (s.modCsc fun c => { c with pauseT := none })
  else s

/-- The effect of a station STOP (R10, R22). -/
def takeStop (reason : Byte) (s : State) : State :=
  if s.csc.session = .checking then closeChecking .stationStop s
  else if s.csc.session.isLive then stopLive .stationStop false (recordStationStop reason s)
  else if s.csc.session = .stopping then recordStationStop reason s
  else s

/-! ### The end of handling (R21) -/

/-- The dispatcher becomes free, and takes the next frame that waits. -/
def endHandling (s : State) : State := dispatcherTake (s.modCsc fun c => { c with dispatcher := none, takenUnplugged := false })

/-- The handling of a station frame ends with its effect, for the state of that moment (R21, R22); a frame taken in UNPLUGGED has
none, also where a plug rise has come since (R2, R55). -/
def endWithEffect (effect : State → State) (s : State) : State := endHandling (if s.csc.takenUnplugged then s else effect s)

/-- The message of the station frame the dispatcher holds, if it holds one of role 1. -/
def handledMessage (s : State) : Option StationMsg :=
  match s.csc.dispatcher with
  | none => none
  | some f => if roleOf f.src = 1 then some f.msg else none

/-- ASSIGN (R4): nothing unless the dispatcher holds a station's ASSIGN. -/
def execAssign (s : State) : Host.Outcome State Fault Refusal :=
  .next
    (match handledMessage s with
      | some (.assign outlet identity) => endWithEffect (takeAssign outlet identity) s
      | _ => s)

/-- OFFER (R23): nothing unless the dispatcher holds a station's OFFER. -/
def execOffer (s : State) : Host.Outcome State Fault Refusal :=
  .next
    (match handledMessage s with
      | some (.offer seq max min) => endWithEffect (takeOffer ⟨max, min, seq⟩) s
      | _ => s)

/-- AUTH (R22): nothing unless the dispatcher holds a station's AUTH. -/
def execAuth (s : State) : Host.Outcome State Fault Refusal :=
  .next
    (match handledMessage s with
      | some (.auth ref) => endWithEffect (takeAuth ref) s
      | _ => s)

/-- TIME (R146): nothing unless the dispatcher holds a station's TIME. -/
def execTime (s : State) : Host.Outcome State Fault Refusal :=
  .next
    (match handledMessage s with
      | some (.time day second) => endWithEffect (takeTime day second) s
      | _ => s)

/-- STATION_PAUSE_FRAME (R16): nothing unless the dispatcher holds a station's PAUSE. -/
def execStationPauseFrame (s : State) : Host.Outcome State Fault Refusal :=
  .next
    (match handledMessage s with
      | some (.pause seconds) => endWithEffect (takePause seconds) s
      | _ => s)

/-- STATION_RESUME_FRAME (R16): nothing unless the dispatcher holds a station's RESUME. -/
def execStationResumeFrame (s : State) : Host.Outcome State Fault Refusal :=
  .next
    (match handledMessage s with
      | some .resume => endWithEffect takeResume s
      | _ => s)

/-- STATION_STOP_FRAME (R10): nothing unless the dispatcher holds a station's STOP. -/
def execStationStopFrame (s : State) : Host.Outcome State Fault Refusal :=
  .next
    (match handledMessage s with
      | some (.stop reason) => endWithEffect (takeStop reason) s
      | _ => s)

/-- NON_STATION_FRAME_DISCARD (R21): nothing unless the dispatcher holds a frame of another role. -/
def execNonStationFrameDiscard (s : State) : Host.Outcome State Fault Refusal :=
  .next
    (match s.csc.dispatcher with
      | none => s
      | some f => if roleOf f.src = 1 then s else endHandling s)

end Sys2Proof.Machine
end

