-- ==== Sys2Proof/Machine/Inputs.lean ====
section
/-! DEFINITION. The commands of the input lines: plug detect, supply-fail warning, converter ready and converter fault. A change of
level is a command only when the line is at the other level. -/
namespace Sys2Proof.Machine

/-- A plug-in cancels an active substitution (R122). -/
def Asm.cancel (a : Asm) : Asm := if a.subst.isActive then { a with subst := .ending, cancelled := true } else a

/-- A rise of plug detect, block by block: session, freshness flag, heater, substitution.
The order is a DESIGN CHOICE, unsafe (log entry 5). -/
def plugRise (s : State) : State :=
  let s := (cscPlugRise s).modImn fun m => { m with fresh := false }
  (heaterMove (fun b => b.plugRise s.pins.supplyFail s.alc.timer.isSome) s).modAsm Asm.cancel

/-- PLUG_DETECT_RISE (R2, R83, R95, R122). -/
def execPlugDetectRise (s : State) : Host.Outcome State Fault Refusal :=
  .next (if s.pins.plug then s else plugRise (s.modPins fun p => { p with plug := true }))

/-- A fall of plug detect, block by block: session, heater, Insulation Monitor.
The order is a DESIGN CHOICE, unsafe (log entry 5). -/
def plugFall (s : State) : State :=
  let s := cscPlugFall s
  imnPlugFall (heaterMove (fun b => b.plugFall s.pins.supplyFail) s)

/-- PLUG_DETECT_FALL (R2, R77, R95). -/
def execPlugDetectFall (s : State) : Host.Outcome State Fault Refusal :=
  .next (if s.pins.plug then plugFall (s.modPins fun p => { p with plug := false }) else s)

/-- The heater at a falling supply-fail warning, with its notice (R107). -/
def heaterSupplyFail (s : State) : State := withNotice heaterSupplyFailCore s

/-- SUPPLY_FAIL_WARNING (R13, R167, R107). -/
def execSupplyFailWarning (s : State) : Host.Outcome State Fault Refusal :=
  .next
    (if s.pins.supplyFail then s
     else heaterSupplyFail (settleNow (cscSupplyFail (s.modPins fun p => { p with supplyFail := true }))))

/-- The heater's state evaluation when the warning is released (R107). -/
def heaterReleased (s : State) : State := heaterMove (fun b => b.evaluate s.pins.supplyFail false) s

/-- SUPPLY_FAIL_WARNING_RELEASE (R13, R5, R107). -/
def execSupplyFailWarningRelease (s : State) : Host.Outcome State Fault Refusal :=
  .next
    (if s.pins.supplyFail then heaterReleased (checkStart (s.modPins fun p => { p with supplyFail := false })) else s)

/-- CONVERTER_READY_RISE (R8). -/
def execConverterReadyRise (s : State) : Host.Outcome State Fault Refusal :=
  .next (if s.pins.ready then s else readyRise (s.modPins fun p => { p with ready := true }))

/-- CONVERTER_READY_FALL (R10). -/
def execConverterReadyFall (s : State) : Host.Outcome State Fault Refusal :=
  .next (if s.pins.ready then cscReadyFall (s.modPins fun p => { p with ready := false }) else s)

/-- CONVERTER_FAULT (R10, R11). -/
def execConverterFault (s : State) : Host.Outcome State Fault Refusal :=
  .next (if s.pins.fault then s else cscFault (s.modPins fun p => { p with fault := true }))

/-- CONVERTER_FAULT_RELEASE (R5). -/
def execConverterFaultRelease (s : State) : Host.Outcome State Fault Refusal :=
  .next (if s.pins.fault then checkStart (s.modPins fun p => { p with fault := false }) else s)

end Sys2Proof.Machine
end

