-- ==== Sys2Proof/Machine/Timers.lean ====
section
/-! DEFINITION. The timer commands: each acts only while its timer runs, and for a timer that reaches a mark, only once. -/
namespace Sys2Proof.Machine

/-! ### Session timers -/

/-- HELLO_TIMER_EXPIRY (R3). -/
def execHelloTimerExpiry (s : State) : Host.Outcome State Fault Refusal :=
  .next (if s.csc.helloT.isSome ∧ s.csc.session = .linking then helloExpiry s else s)

/-- SILENCE_1000_MS (R18). -/
def execSilence1000Ms (s : State) : Host.Outcome State Fault Refusal :=
  .next
    (if s.csc.silence = some 0 then
      changeHold .stationSilent true (s.modCsc fun c => { c with silence := some Config.silentMs })
     else s)

/-- A silence of 10,000 ms by session state (R18). -/
def silenceLost (s : State) : State :=
  match s.csc.session with
  | .ready | .checking | .ended => returnToLinking s
  | .starting | .transfer | .hold => stopLive .stationLost false s
  | _ => s

/-- SILENCE_10000_MS (R18). -/
def execSilence10000Ms (s : State) : Host.Outcome State Fault Refusal :=
  .next
    (if s.csc.silence = some Config.silentMs then
      silenceLost (s.modCsc fun c => { c with silence := some Config.lostMs })
     else s)

/-- PAUSE_TIMER_EXPIRY (R16). -/
def execPauseTimerExpiry (s : State) : Host.Outcome State Fault Refusal :=
  .next (if s.csc.pauseT.isSome then changeHold .stationPause false (s.modCsc fun c => { c with pauseT := none }) else s)

/-- LINK_LOSS_AGE_EXPIRY (R19). -/
def execLinkLossAgeExpiry (s : State) : Host.Outcome State Fault Refusal :=
  .next
    (if s.csc.linkAge = some 0 then testLinkLost (s.modCsc fun c => { c with linkAge := some Config.linkLostMs }) else s)

/-- CHECKING_TIMER_EXPIRY (R6). -/
def execCheckingTimerExpiry (s : State) : Host.Outcome State Fault Refusal :=
  .next (if s.csc.checkingT.isSome ∧ s.csc.session = .checking then closeChecking .insulationUnverified s else s)

/-- READY_TIMER_EXPIRY (R8). -/
def execReadyTimerExpiry (s : State) : Host.Outcome State Fault Refusal :=
  .next
    (if s.csc.readyT.isSome then
      let s := s.modCsc fun c => { c with readyT := none }
      if s.csc.session = .starting then stopLive .converterTimeout false s else s
     else s)

/-- STOPPING_TIMER_EXPIRY (R12). -/
def execStoppingTimerExpiry (s : State) : Host.Outcome State Fault Refusal :=
  .next (if s.csc.stoppingT.isSome ∧ s.csc.session = .stopping then closeSession s else s)

/-- REQUEST_TIMER_EXPIRY (R26): in STOPPING the expiry schedules nothing. -/
def execRequestTimerExpiry (s : State) : Host.Outcome State Fault Refusal :=
  .next
    (if s.csc.requestT.isSome then
      (if s.csc.session.isLive then scheduleRequest s else s.modCsc fun c => { c with requestT := none })
     else s)

/-- The METER frame of a timer expiry: none while the session runs unrecorded (R27). -/
def meterDue (s : State) : State :=
  match openSession s with
  | none => s
  | some n => if s.csc.unrecorded then s else scheduleMeter n s

/-- METER_TIMER_EXPIRY (R27). DEDUCED outside its states, unsafe (log entry 28). -/
def execMeterTimerExpiry (s : State) : Host.Outcome State Fault Refusal :=
  .next
    (if s.csc.meterT.isSome then
      (if s.csc.session = .transfer ∨ s.csc.session = .hold then
        (meterDue s).modCsc fun c => { c with meterT := some Config.meterMs }
       else s.modCsc fun c => { c with meterT := none })
     else s)

/-- STATUS_TIMER_EXPIRY (R25). -/
def execStatusTimerExpiry (s : State) : Host.Outcome State Fault Refusal :=
  .next (if s.csc.statusT.isSome then scheduleStatus s else s)

/-! ### The allocation timer (R31, R42) -/

/-- A request that differs from the last field by 5 deciamps or more is scheduled (R26). -/
def compareRequest (s : State) : State :=
  if 5 ≤ (s.alc.lastRequest - s.csc.lastField) + (s.csc.lastField - s.alc.lastRequest) ∧ s.csc.session.isOpen then
    scheduleRequest s
  else s

/-- One expiry: computation and ramp step, then the hand-overs in the order of R42.
The order is a DESIGN CHOICE, unsafe (log entry 5). -/
def allocationExpiry (s : State) : State :=
  let i := allocationInput s
  let r := s.alc.compute i
  let a := s.alc.expire i
  let moved := s.alc.quiet && a.setpoint != s.alc.setpoint
  let s := handGrant a.grant (takeSetpoint a.setpoint (s.modAlc fun _ => a))
  let s := changeHold .noVoltage r.noVoltage (compareRequest s)
  if moved then takeNotice s else s

/-- ALLOCATION_TIMER_EXPIRY (R31 to R42). -/
def execAllocationTimerExpiry (s : State) : Host.Outcome State Fault Refusal :=
  .next (if s.alc.timer.isSome then allocationExpiry s else s)

/-! ### Insulation timers -/

/-- SPACING_TIMER_EXPIRY (R73). -/
def execSpacingTimerExpiry (s : State) : Host.Outcome State Fault Refusal :=
  .next (if s.imn.spacingT.isSome then s.modImn fun m => m.spacingExpiry s.csc.session.isLive else s)

/-- SETTLE_TIMER_EXPIRY (R74). -/
def execSettleTimerExpiry (s : State) : Host.Outcome State Fault Refusal :=
  .next (s.modImn fun m => { m with settleT := none })

/-- SETTLE_END (R74, R75): nothing unless the slot just taken was the first counting slot after the settle time. -/
def execSettleEnd (s : State) : Host.Outcome State Fault Refusal :=
  .next
    (if s.imn.settleReady ∧ (s.imn.st = .settleA ∨ s.imn.st = .settleB) then
      openWindow (s.modImn fun m => m.startAveraging s.bhc.contactor)
     else s)

/-- DISABLED_TIMER_EXPIRY (R83). -/
def execDisabledTimerExpiry (s : State) : Host.Outcome State Fault Refusal :=
  .next
    (if s.imn.disabledT.isSome then s.modImn fun m => { m with disabledT := none, stale := true, fresh := false } else s)

/-! ### Heater timers -/

/-- The wait reason STALE set or cleared, with R98 (R93). -/
def Bhc.setStale (b : Bhc) (supplyFail stale : Bool) : Bhc :=
  { b with waits := { b.waits with stale := stale } }.evaluate supplyFail false

/-- STALENESS_TIMER_EXPIRY (R93). -/
def execStalenessTimerExpiry (s : State) : Host.Outcome State Fault Refusal :=
  .next
    (if s.bhc.staleT.isSome then heaterMove (fun b => { b with staleT := none }.setStale s.pins.supplyFail true) s else s)

/-- RUN_TIMER_EXPIRY (R96). -/
def execRunTimerExpiry (s : State) : Host.Outcome State Fault Refusal :=
  .next (if s.bhc.runT.isSome then heaterMove (fun b => b.runExpiry s.pins.supplyFail) s else s)

/-- ISOLATION_TIMER_EXPIRY (R100, R84): the confirmation starts the BRANCH cycle. It is handed over in every state of the heater, also
where HEATER_UNLOCK has taken a heater locked out in the wait to OFF or WAIT. DEDUCED, unsafe (log entry 37). -/
def execIsolationTimerExpiry (s : State) : Host.Outcome State Fault Refusal :=
  .next
    (if s.bhc.isolationT.isSome then (s.modBhc fun b => { b with isolationT := none }).modImn Imn.confirm else s)

end Sys2Proof.Machine
end

