-- ==== Sys2Proof/Machine/Power.lean ====
section
/-! DEFINITION. POWER_ON (R185) and the vehicle restart (R184). The command RESTART itself is a port word, in Machine/Ports.lean. -/
namespace Sys2Proof.Machine

/-- The level of plug detect is taken at the end of power-on or of a restart (R2, R95). -/
def takePlugLevel (s : State) : State :=
  if s.pins.plug then
    heaterMove (fun b => b.plugRise s.pins.supplyFail s.alc.timer.isSome) (cscPlugRise s)
  else s

/-! ### Power-on (R185) -/

/-- A port at start-up: a window that stands open stays open, and its words are ignored until it ends (R185). A window in which no
word is complete shows in the level of select alone, `selectLow`, which is free at each start-up: DESIGN CHOICE, safe
(log entry 6). -/
def PortState.startUp (p : PortState) (selectLow : Nat → Bool) : PortState :=
  let stands := p.windowOpen || selectLow p.starts
  { PortState.reset with windowOpen := stands, ignoring := stands, starts := p.starts + 1 }

/-- Every block at its power-on values; the sense die, the input lines and the waiting commands are not the main die's.
DEDUCED, unsafe (log entry 19). -/
def powerOnBlocks (s : State) : State :=
  { s with
    csc := .reset
    alc := s.alc.afterPowerOn
    slc := s.slc.afterPowerOn
    imn := s.imn.afterPowerOn
    bhc := s.bhc.afterPowerOn
    ble := .reset
    asm := s.asm.afterPowerOn
    mtr := .reset s.mtr.creep
    ttc := s.ttc.afterPowerOn
    brs := s.brs.afterPowerOn
    vp := s.vp.startUp Config.vpSelectLow
    fp := s.fp.startUp Config.fpSelectLow
    sel := .reset }

/-- Power-on: the blocks, RECORD for a bank closed or cleared by the examination (R168), the plug level. -/
def powerOn (s : State) : State :=
  let t := powerOnBlocks s
  takePlugLevel (if examinationRecords s.brs then raiseFp .record t else t)

/-- POWER_ON (R185). -/
def execPowerOn (s : State) : Host.Outcome State Fault Refusal := .next (powerOn s)

/-! ### Vehicle restart (R184) -/

/-- Whether the restart's own close schedules a STOP (R14). -/
def restartCloses (s : State) : Bool := s.csc.session.isOpen || s.csc.session == .checking

/-- The Insulation Monitor's part of a restart (R90). -/
def imnRestart (s : State) : State := (abandonCycle s).modImn Imn.afterRestart

/-- The Vehicle Port after a restart: the word that carried RESTART has been taken, its window goes on, and its pending output is
discarded. -/
def PortState.afterRestart (p : PortState) : PortState :=
  { PortState.reset with windowOpen := p.windowOpen, starts := p.starts, dataOut := p.dataOut }

/-- Steps 1 to 7 of R184. The heater takes its restart values in step 3 without a disturbance notice, though its contactor may open and
its duty fall to 0 while the quiet window is open, before the cycle is abandoned in step 5 (R99, R76, R90). DESIGN CHOICE, unsafe
(log entry 41). -/
def restartSteps (s : State) : State :=
  let stop := restartCloses s
  let s := (cscRestart s).modAlc Alc.afterRestart
  let s := (s.modBhc fun b => b.afterRestart s.asm.subst.isActive).modSlc fun l => l.afterRestart stop
  let s := (imnRestart s).modAsm Asm.afterRestart
  (s.modVp PortState.afterRestart).modSel fun x => { x with meter := 0 }

/-- A verdict of FAULT with cause HEATER that the restart kept is handed to the heater again (R90). -/
def handKeptVerdict (s : State) : State :=
  if s.imn.verdict = .fault ∧ s.imn.cause = .heater then heaterBranchFault s else s

/-- The vehicle restart (R184). -/
def vehicleRestart (s : State) : State := handKeptVerdict (takePlugLevel (restartSteps s))

end Sys2Proof.Machine
end

