-- ==== Sys2Proof/Machine/Items.lean ====
section
/-! DEFINITION. The items of the two ports (R177 to R179): their rights, and the value a read of each returns. -/
namespace Sys2Proof.Machine

/-! ### Rights -/

/-- The rights of R177; `none` is a code that is not an item of the port. -/
inductive Right where
  | none
  | read
  | write
  | command
  | effect
  deriving DecidableEq, Repr

/-- Whether `n` lies in `lo`..`hi`. -/
def within (lo hi n : Nat) : Bool := decide (lo ≤ n) && decide (n ≤ hi)

/-- Rights in the common block (R177). -/
def commonRight (n : Nat) : Right :=
  if n = 0x01 ∨ n = 0x03 ∨ n = 0x05 then .write
  else if n = 0x02 ∨ n = 0x07 then .effect
  else if n ≤ 0x1A then .read
  else .none

/-- Rights at the Vehicle Port from 20h up (R178). -/
def vpRight (n : Nat) : Right :=
  if within 0x20 0x21 n || n == 0x39 || n == 0x46 then .command
  else if within 0x2A 0x2C n || within 0x32 0x38 n || within 0x42 0x45 n || within 0x50 0x58 n || n == 0x5F then .write
  else if within 0x22 0x62 n then .read
  else .none

/-- Rights at the Fleet Port from 20h up (R179). -/
def fpRight (n : Nat) : Right :=
  if within 0x44 0x45 n || n == 0x4B || n == 0x50 || n == 0x53 || n == 0x58 || n == 0x69 then .command
  else if n == 0x6A || n == 0x6D then .effect
  else if within 0x20 0x29 n || within 0x30 0x43 n || within 0x48 0x4A n || within 0x51 0x52 n || within 0x54 0x57 n
      || within 0x59 0x5A n || n == 0x60 || n == 0x68 || n == 0x70 then .write
  else if n == 0x46 || within 0x5B 0x5F n || within 0x61 0x62 n || within 0x6B 0x6C n || within 0x71 0x75 n then .read
  else .none

/-- The right of item `n` at port `p`. -/
def rightOf (p : Port) (n : Nat) : Right :=
  if n < 0x20 then commonRight n
  else
    match p with
    | .vp => vpRight n
    | .fp => fpRight n

/-! ### Words -/

/-- A value that may be absent, FFFFh then. -/
def optWord (x : Option Nat) : Word :=
  match x with
  | none => absentWord
  | some n => natWord n

/-- The upper word of a 32-bit quantity. -/
def highWord (n : Nat) : Word := natWord (n / 65536)

/-- Watts from an energy (R177): floor, saturated to ±32,767. -/
def wattsWord (e : Int) : Word := intWord (clampInt (-32767) 32767 (e / (Config.wattSecond : Int)))

/-- The port's state. -/
def portOf (p : Port) (s : State) : PortState :=
  match p with
  | .vp => s.vp
  | .fp => s.fp

/-! ### Common items (R177) -/

/-- A field of the last period result, FFFFh before the first. -/
def resultWord (s : State) (f : PeriodResult → Word) : Word :=
  match s.mtr.last with
  | none => absentWord
  | some p => f p

/-- RESULT_ROUTE. -/
def routeWord (p : PeriodResult) : Word :=
  natWord (p.route.code + 16 * boolNat p.substituted + 32 * boolNat p.disagree + 64 * boolNat p.single + 128 * boolNat p.timeUnset)

/-- RESULT_SESSION. -/
def routeSession (p : PeriodResult) : Word :=
  match p.route with
  | .session n => natWord n
  | _ => absentWord

/-- BANK_STATES (R172). -/
def bankStates (r : Brs) : Nat :=
  let k (b : Fin 8) : Nat := (r.banks.get b).st.code
  k 0 + 4 * k 1 + 16 * k 2 + 64 * k 3 + 256 * k 4 + 1024 * k 5 + 4096 * k 6 + 16384 * k 7

/-- CURSOR (R171). -/
def cursorWord (c : Cursor) : Word := natWord (c.bank.val * 1024 + c.slot * 16 + c.word)

/-- The value of a common item, read without effect. CURSOR_SET reads the present bank and slot, also where RECORD_WORD has moved them
since the write: DESIGN CHOICE, unsafe (log entry 27). -/
def commonItem (p : Port) (n : Nat) (s : State) : Word :=
  match n with
  | 0x00 => natWord Config.familyCode
  | 0x01 => natWord (boolNat (portOf p s).snapshot.isSome)
  | 0x02 => (portOf p s).events
  | 0x03 => (portOf p s).mask
  | 0x04 => (portOf p s).lastRefusal
  | 0x05 => natWord ((cursorOf p s.brs).bank.val * 64 + (cursorOf p s.brs).slot)
  | 0x06 => cursorWord (cursorOf p s.brs)
  | 0x07 => recordWordOf s.brs.mem (cursorOf p s.brs)
  | 0x08 => natWord (bankStates s.brs)
  | 0x09 => natWord s.brs.counter
  | 0x0A => natWord (s.brs.banks.get (cursorOf p s.brs).bank).next
  | 0x0B => natWord s.ttc.day
  | 0x0C => highWord s.ttc.second
  | 0x0D => natWord s.ttc.second
  | 0x0E => natWord s.ttc.source.code
  | 0x0F => natWord (s.ttc.band.val + 256 * boolNat s.ttc.timeUnset)
  | 0x10 => natWord s.ttc.price
  | 0x11 => natWord s.ttc.version
  | 0x12 => resultWord s routeWord
  | 0x13 => resultWord s routeSession
  | 0x14 => resultWord s fun p => wattsWord p.pAc
  | 0x15 => resultWord s fun p => wattsWord p.pObc
  | 0x16 => resultWord s fun p => wattsWord p.pHtr
  | 0x17 => resultWord s fun p => wattsWord p.traction
  | 0x18 => resultWord s fun p => wattsWord p.heating
  | 0x19 => resultWord s fun p => natWord p.vrms
  | 0x1A => resultWord s fun p => intWord p.vbus
  | _ => absentWord

/-! ### Vehicle Port items (R178) -/

/-- A field of the offer in force, FFFFh when it is absent. -/
def offerWord (s : State) (f : Offer → Nat) : Word := optWord (s.csc.offer.map f)

/-- HEATER_STATE. -/
def heaterStateWord (b : Bhc) : Word := natWord (b.st.code + 16 * b.mode.code + 256 * boolNat b.contactor)

/-- VERDICT. -/
def verdictWord (m : Imn) : Word :=
  natWord (m.statusByte + 256 * boolNat m.fresh + 512 * boolNat m.latch + 1024 * boolNat m.retest.isSome)

/-- A field of the insulation result record, FFFFh before the first completion. -/
def cycleWord (s : State) (f : CycleResult → Word) : Word :=
  match s.imn.result with
  | none => absentWord
  | some r => f r

/-- RESULT_FLAGS. -/
def cycleFlags (r : CycleResult) : Word :=
  natWord (boolNat r.disturbed + 2 * boolNat r.branch + 4 * boolNat r.heaterIsolated + 16 * r.restarts
    + 32768 * secondHigh r.second)

/-- RESULT_BUS_V. -/
def busVoltsWord (r : CycleResult) : Word :=
  match r.busVolts with
  | none => absentWord
  | some v => intWord v

/-- CH_STANDBY of a channel, read. -/
def standbyWord (s : State) (c : Fin 8) : Word :=
  natWord ((s.asm.standby.get c).code + 16 * (effectiveMode s c).code + 256 * boolNat (standbyPending s c)
    + 4096 * boolNat (s.asm.validLast.get c))

/-- LINK_STATUS: SINGLE and DISAGREE are those of the last slot (R118). -/
def linkWord (s : State) : Word :=
  natWord (boolNat s.ble.linkUp + 16 * s.ble.store.length + 256 * boolNat s.asm.single + 512 * boolNat s.asm.disagreeLast)

/-- A channel or band number from the low bits of an item code. -/
def octOf (n : Nat) : Fin 8 := ⟨n % 8, by omega⟩

/-- A band number from the low bits of an item code. -/
def bandOf (n : Nat) : Band := ⟨n % 4, by omega⟩

/-- The session set value METER_SELECT chooses (R178). -/
def meterValue (d : SessionSet) (sel : Nat) : Nat :=
  match sel with
  | 0 => d.net.imp
  | 1 => d.net.exp
  | 2 => d.dcOut.wh
  | 3 => d.heaterDc.wh
  | 12 => cents d.tractionTicks
  | 13 => cents d.heatingTicks
  | n => if n < 8 then (d.traction.get (bandOf n)).wh else (d.heating.get (bandOf n)).wh

/-- The pack temperature as PACK_TEMP reads it, FFFFh while it is absent: DEDUCED, unsafe (log entry 27). -/
def packTempWord (b : Bhc) : Word :=
  match b.packTemp with
  | none => absentWord
  | some t => intWord t

/-- The value of a Vehicle Port item from 20h up. -/
def vpItem (n : Nat) (s : State) : Word :=
  match n with
  | 0x22 => natWord s.csc.session.code
  | 0x23 => natWord (stopCode s.csc.stopReason)
  | 0x24 => natWord s.csc.holds.mask
  | 0x25 => natWord s.slc.lastError.code
  | 0x26 => offerWord s Offer.max
  | 0x27 => offerWord s Offer.min
  | 0x28 => offerWord s Offer.seq
  | 0x29 => s.csc.identity
  | 0x2A => natWord s.alc.rating
  | 0x2B => natWord s.alc.currentLimit
  | 0x2C => natWord s.alc.powerLimit
  | 0x2D => natWord s.alc.setpoint
  | 0x2E => natWord s.alc.target
  | 0x2F => natWord s.alc.lastRequest
  | 0x30 => natWord s.alc.grant
  | 0x31 => natWord s.alc.share
  | 0x32 => packTempWord s.bhc
  | 0x33 => intWord s.bhc.target
  | 0x34 => natWord s.bhc.gain
  | 0x35 => natWord s.bhc.maxPower
  | 0x36 => natWord s.bhc.currentLimit
  | 0x37 => natWord s.bhc.allowance
  | 0x38 => natWord s.bhc.cap
  | 0x3A => heaterStateWord s.bhc
  | 0x3B => natWord s.bhc.waits.mask
  | 0x3C => natWord s.bhc.demand
  | 0x3D => natWord (heaterRequest s.bhc)
  | 0x3E => natWord s.bhc.duty
  | 0x3F => natWord (s.bhc.lockCause.code + 256 * s.bhc.overdraw)
  | 0x40 => optWord (s.bhc.run.map ParkedRun.wh)
  | 0x41 => optWord (s.bhc.run.map ParkedRun.allowance)
  | 0x42 => natWord s.imn.warnThreshold
  | 0x43 => natWord s.imn.faultThreshold
  | 0x44 => natWord s.imn.settleMs
  | 0x45 => natWord s.imn.spacingS
  | 0x47 => verdictWord s.imn
  | 0x48 => cycleWord s fun r => optWord r.rp
  | 0x49 => cycleWord s fun r => optWord r.rn
  | 0x4A => cycleWord s fun r => optWord r.min
  | 0x4B => cycleWord s busVoltsWord
  | 0x4C => cycleWord s cycleFlags
  | 0x4D => cycleWord s fun r => natWord r.day
  | 0x4E => cycleWord s fun r => natWord r.second
  | 0x4F => natWord s.bhc.grant
  | 0x58 => natWord s.asm.block.code
  | 0x59 => linkWord s
  | 0x5A => natWord s.ble.slipDrops
  | 0x5B => natWord s.ble.slipRepeats
  | 0x5C => natWord s.ble.gapSlots
  | 0x5D => natWord s.ble.barrierGaps
  | 0x5E => optWord s.mtr.sess.owner
  | 0x5F => natWord s.sel.meter
  | 0x60 => highWord (meterValue s.mtr.sess s.sel.meter)
  | 0x61 => natWord (meterValue s.mtr.sess s.sel.meter)
  | 0x62 => natWord s.alc.efficiency
  | n => if within 0x50 0x57 n then standbyWord s (octOf n) else absentWord

/-! ### Fleet Port items (R179) -/

/-- A byte as a word. -/
def byteWord (b : Byte) : Word := b.setWidth 16

/-- A mask item, read: written mask and mask in force. -/
def maskWord (written inForce : BitVec 4) : Word := natWord (written.toNat + 256 * inForce.toNat)

/-- The table entry TABLE_INDEX selects. -/
def selectedEntry (t : Ttc) (index : Nat) : Option TariffEntry :=
  if index < 8 then t.table[index]? else t.pendingTable[index - 8]?

/-- The Wh counter VERIF_SELECT chooses. -/
def verifWh (v : VerifSet) (sel : Nat) : Nat :=
  match sel with
  | 0 => v.net.imp
  | 1 => v.net.exp
  | 2 => v.traction.wh
  | 3 => v.heating.wh
  | 4 => v.dcOut.wh
  | _ => v.heaterDc.wh

/-- The remainder VERIF_SELECT chooses; import and export share one. -/
def verifRem (v : VerifSet) (sel : Nat) : Int :=
  match sel with
  | 0 => v.net.rem
  | 1 => v.net.rem
  | 2 => v.traction.rem
  | 3 => v.heating.rem
  | 4 => v.dcOut.rem
  | _ => v.heaterDc.rem

/-- The unrecorded totals as UNRECORDED_IMPORT_LOW and UNRECORDED_SESSIONS read them (R170). -/
def unrecordedView (r : Brs) : UnrecordedCopy := r.copy.getD ⟨r.unrecordedImport, r.unrecordedSessions⟩

/-- The substitution record of the selected channel. -/
def selectedRecord (a : Asm) : SubstRecord := a.substConfig.get a.substSelect

/-- The value of a Fleet Port item from 20h up, read without effect. -/
def fpItem (n : Nat) (s : State) : Word :=
  match n with
  | 0x20 => natWord s.imn.bridge
  | 0x21 => natWord s.bhc.resistance
  | 0x22 => natWord s.alc.efficiency
  | 0x23 => natWord s.mtr.creep
  | 0x24 => natWord (boolNat s.brs.proceed)
  | 0x25 => s.brs.account
  | 0x26 => byteWord s.slc.group2Value
  | 0x27 => byteWord s.slc.group2Mask
  | 0x28 => byteWord s.slc.group3Value
  | 0x29 => byteWord s.slc.group3Mask
  | 0x40 => natWord s.asm.substSelect.val
  | 0x41 => natWord (selectedRecord s.asm).pattern.code
  | 0x42 => (selectedRecord s.asm).value1
  | 0x43 => (selectedRecord s.asm).value2
  | 0x46 => natWord (s.asm.subst.code + 256 * boolNat s.asm.doneCancelled)
  | 0x48 => natWord s.ttc.timeDay
  | 0x49 => natWord s.ttc.timeHigh
  | 0x4A => natWord s.ttc.timeLow
  | 0x51 => natWord s.ttc.stagedHigh
  | 0x52 => natWord s.ttc.stagedLow
  | 0x59 => maskWord s.ttc.tractionWritten s.ttc.tractionMask
  | 0x5A => maskWord s.ttc.heatingWritten s.ttc.heatingMask
  | 0x5B => natWord (boolNat s.ttc.commitMark)
  | 0x60 => natWord s.sel.table
  | 0x61 => optWord ((selectedEntry s.ttc s.sel.table).map fun e => e.start / 60)
  | 0x62 => optWord ((selectedEntry s.ttc s.sel.table).map fun e => e.band.val)
  | 0x68 => natWord s.brs.retireBank.val
  | 0x6A => highWord s.brs.unrecordedImport
  | 0x6B => natWord (unrecordedView s.brs).imp
  | 0x6C => natWord (unrecordedView s.brs).sessions
  | 0x6D => natWord (boolNat s.brs.copy.isSome)
  | 0x70 => natWord s.sel.verif
  | 0x71 => highWord (verifWh s.mtr.verif s.sel.verif)
  | 0x72 => natWord (verifWh s.mtr.verif s.sel.verif)
  | 0x73 => intWord (verifRem s.mtr.verif s.sel.verif / 4294967296)
  | 0x74 => intWord (verifRem s.mtr.verif s.sel.verif / 65536)
  | 0x75 => intWord (verifRem s.mtr.verif s.sel.verif)
  | n =>
    if within 0x30 0x37 n then intWord (s.asm.offset.get (octOf n))
    else if within 0x38 0x3F n then natWord (s.asm.gain.get (octOf n))
    else if within 0x54 0x57 n then natWord (s.ttc.pendingPrices.get (bandOf n))
    else if within 0x5C 0x5F n then natWord (s.ttc.prices.get (bandOf n))
    else absentWord

/-! ### Reading an item -/

/-- The value a read of item `n` would return now, its effect apart: 0 for a command, FFFFh for a code that is no item. -/
def itemValue (p : Port) (n : Nat) (s : State) : Word :=
  match rightOf p n with
  | .none => absentWord
  | .command => 0
  | _ =>
    if n < 0x20 then commonItem p n s
    else
      match p with
      | .vp => vpItem n s
      | .fp => fpItem n s

/-! ### Snapshot (R181) -/

/-- Whether an item belongs to the snapshot copy: the R and W items and UNRECORDED_IMPORT_HIGH, apart from the port items. -/
def isCopied (p : Port) (n : Nat) : Bool :=
  match rightOf p n with
  | .read => n != 0x00 && n != 0x04 && n != 0x06
  | .write => n != 0x01 && n != 0x03
  | .effect => n == 0x6A
  | _ => false

/-- The snapshot copy. -/
def snapshotCopy (p : Port) (s : State) : List (Byte × Word) :=
  ((List.range 128).filter (isCopied p)).map fun n => (BitVec.ofNat 8 n, itemValue p n s)

/-- The value of an item in a snapshot copy. -/
def copiedValue (n : Nat) : List (Byte × Word) → Option Word
  | [] => none
  | (k, w) :: rest => if k.toNat = n then some w else copiedValue n rest

/-- The value a read returns: the snapshot's while it holds the item, else the live one. -/
def readValue (p : Port) (n : Nat) (s : State) : Word :=
  match (portOf p s).snapshot with
  | none => itemValue p n s
  | some copy => if isCopied p n then (copiedValue n copy).getD (itemValue p n s) else itemValue p n s

end Sys2Proof.Machine
end

