-- ==== Sys2Proof/Machine/Writes.lean ====
section
/-! DEFINITION. What an accepted word of a port does in the block that owns its item: the commands, and the writes of the settings,
claims and selectors (R176 order 5). Each is a function of the state; a refusal by the owning block is one of its results. -/
namespace Sys2Proof.Machine

/-! ### Session commands (R20) -/

/-- AUTHORIZE. -/
def authorizeAction (s : State) : State :=
  match s.csc.session with
  | .unplugged | .linking | .stopping => refuse .vp .badState 0x20 s
  | .ready | .ended => checkStart (s.modCsc fun c => { c with auth := true })
  | .checking | .starting | .transfer | .hold => s

/-- PAUSE. -/
def pauseAction (s : State) : State :=
  if s.csc.session.keepsHolds then changeHold .vehiclePause true s else refuse .vp .badState 0x20 s

/-- RESUME. -/
def resumeAction (s : State) : State :=
  if s.csc.session.keepsHolds then changeHold .vehiclePause false s else refuse .vp .badState 0x20 s

/-- STOP. -/
def stopAction (s : State) : State :=
  match s.csc.session with
  | .unplugged => refuse .vp .badState 0x20 s
  | .linking | .stopping => s
  | .ready | .ended => s.modCsc fun c => { c with auth := false }
  | .checking => closeChecking .vehicleStop s
  | .starting | .transfer | .hold => stopLive .vehicleStop false s

/-! ### Heater commands (R104, R105) -/

/-- HEAT_RUN. -/
def heatRunAction (s : State) : State :=
  if s.pins.plug || s.bhc.st == .lockedOut then refuse .vp .badState 0x39 s
  else heaterMove (fun b => b.startRun s.pins.supplyFail) (s.modMtr Mtr.clearRun)

/-- HEAT_STOP. -/
def heatStopAction (s : State) : State :=
  heaterMove (fun b => b.heatStop s.pins.plug s.pins.supplyFail s.alc.timer.isSome) s

/-- The UNLOCK request reaches the monitor, which serves it at once from IDLE (R72, R104). -/
def askUnlock (s : State) : State := (requestUnlockIfDue s).modImn Imn.serveIdle

/-- HEATER_UNLOCK. -/
def heaterUnlockAction (s : State) : State :=
  if s.bhc.st = .lockedOut ∧ (s.bhc.lockCause = .overcurrent ∨ s.bhc.lockCause = .overdraw) then
    raiseVp .heater (heaterMove (fun b => b.endLockout s.pins.supplyFail) s)
  else if s.bhc.st = .lockedOut ∧ s.bhc.lockCause = .heater then askUnlock (heaterMove Bhc.beginTest s)
  else if s.bhc.st = .wait ∧ s.bhc.waits.unlockTest then s
  else refuse .vp .badState 0x39 s

/-! ### Insulation commands and settings (R70, R82) -/

/-- RETEST. -/
def retestAction (s : State) : State := s.modImn Imn.retestCommand

/-- WARN_THRESHOLD or FAULT_THRESHOLD. -/
def thresholdAction (item : ThresholdItem) (v : Word) (s : State) : State :=
  match item with
  | .warning => s.modImn fun m => m.writeWarn v
  | .fault => s.modImn fun m => m.writeFault v

/-! ### Substitution (R119, R121, R122) -/

/-- Whether some channel is configured. -/
def Asm.anyConfigured (a : Asm) : Bool :=
  a.configured 0 || a.configured 1 || a.configured 2 || a.configured 3 || a.configured 4 || a.configured 5 || a.configured 6
    || a.configured 7

/-- The conditions of R121 for SUBST_START. -/
def substMayStart (s : State) : Bool :=
  s.asm.subst == .off && s.asm.anyConfigured
    && (s.csc.session == .unplugged || s.csc.session == .linking || s.csc.session == .ready || s.csc.session == .ended)
    && (openBank s).isNone
    && (s.bhc.st == .off || s.bhc.st == .spent || s.bhc.st == .lockedOut)

/-- SUBST_START. -/
def substStartAction (s : State) : State :=
  if substMayStart s then
    heaterTakesSubstitution true
      ((s.modAsm fun a => { a with subst := .armed, substituting := false, cancelled := false }).modMtr fun m =>
        { m with verif := .clear })
  else refuse .fp .badState 0x44 s

/-- SUBST_STOP. -/
def substStopAction (s : State) : State :=
  match s.asm.subst with
  | .armed => endSubstitution true s
  | .running => s.modAsm fun a => { a with subst := .ending }
  | _ => s

/-- The item code of a substitution configuration item. -/
def substItemCode : SubstItem → Byte
  | .select => 0x40
  | .pattern => 0x41
  | .value1 => 0x42
  | .value2 => 0x43

/-- Change the record of the selected channel. -/
def Asm.editRecord (a : Asm) (f : SubstRecord → SubstRecord) : Asm :=
  { a with substConfig := a.substConfig.set a.substSelect (f (selectedRecord a)) }

/-- A substitution configuration item. -/
def substConfigAction (item : SubstItem) (v : Word) (s : State) : State :=
  if s.asm.subst.isActive then refuse .fp .badState (substItemCode item) s
  else
    s.modAsm fun a =>
      match item with
      | .select => { a with substSelect := octOfWord v }
      | .pattern => a.editRecord fun r => { r with pattern := Pattern.ofWord v }
      | .value1 => a.editRecord fun r => { r with value1 := v }
      | .value2 => a.editRecord fun r => { r with value2 := v }

/-! ### Calibration and channels (R110, R114, R116) -/

/-- The item code of a calibration item. -/
def calCode (item : CalItem) (c : Fin 8) : Byte :=
  match item with
  | .offset => BitVec.ofNat 8 (0x30 + c.val)
  | .gain => BitVec.ofNat 8 (0x38 + c.val)

/-- A calibration item. -/
def calibrationAction (item : CalItem) (c : Fin 8) (v : Word) (s : State) : State :=
  if (openBank s).isSome || s.asm.subst.isActive then refuse .fp .badState (calCode item c) s
  else
    s.modAsm fun a =>
      match item with
      | .offset => { a with offset := a.offset.set c (clampSigned (-2048) 2047 v) }
      | .gain => { a with gain := a.gain.set c (clampWord 28000 37000 v) }

/-- CH_STANDBY of a channel. -/
def standbyAction (c : Fin 8) (v : Word) (s : State) : State :=
  s.modAsm fun a => { a with standby := a.standby.set c (ChannelMode.ofWord v) }

/-- IAC_BLOCK. -/
def blockAction (v : Word) (s : State) : State := s.modAsm fun a => a.writeBlock (Block.ofWord v)

/-! ### Allocator and heater settings (R29, R92 to R94) -/

/-- OBC_AC_RATING: a rating that changes bounds a pending REQUEST (R26). -/
def ratingAction (v : Word) (s : State) : State :=
  let r := clampWord 60 400 v
  if s.alc.rating = r then s else reboundRequest (s.modAlc fun a => { a with rating := r })

/-- The demand is recomputed and R98 is applied, with the heater's notice (R94, R98). -/
def demandAction (f : Bhc → Bhc) (s : State) : State :=
  heaterMove (fun b => { f b with demand := demandOf (f b) }.evaluate s.pins.supplyFail false) s

/-- PACK_TEMP (R93). -/
def packTempAction (v : Word) (s : State) : State :=
  demandAction (fun b =>
    { b with
      packTemp := some (clampSigned (-400) 1000 v)
      staleT := some Config.staleMs
      waits := { b.waits with stale := false } }) s

/-- HEATER_TARGET, HEATER_GAIN or HEATER_MAX_POWER. -/
def demandSettingAction (item : DemandItem) (v : Word) (s : State) : State :=
  demandAction (fun b =>
    match item with
    | .target => { b with target := clampSigned (-200) 400 v }
    | .gain => { b with gain := clampWord 1 500 v }
    | .maxPower => { b with maxPower := clampWord 0 9000 v }) s

/-! ### Tariff (R146, R149 to R151) -/

/-- TIME_SET. -/
def timeSetAction (s : State) : State := fleetTime s

/-- An edit of the pending copy, refused while a commit waits (R150). -/
def editPending (code : Byte) (f : Ttc → Ttc) (s : State) : State :=
  if s.ttc.commitMark then refuse .fp .busy code s else s.modTtc f

/-- PENDING_CLEAR. -/
def pendingClearAction (s : State) : State := editPending 0x50 (fun t => { t with pendingTable := [] }) s

/-- PENDING_ADD. -/
def pendingAddAction (v : Word) (s : State) : State :=
  if !s.ttc.commitMark && addMeetsFull s.ttc then refuse .fp .full 0x53 s
  else editPending 0x53 (fun t => { t with pendingTable := addPending t (bandOfWord v) }) s

/-- The item code of PENDING_PRICE of a band. -/
def priceCode (b : Band) : Byte := BitVec.ofNat 8 (0x54 + b.val)

/-- PENDING_PRICE of a band. -/
def pendingPriceAction (b : Band) (v : Word) (s : State) : State :=
  editPending (priceCode b) (fun t => { t with pendingPrices := t.pendingPrices.set b v.toNat }) s

/-- TARIFF_COMMIT. -/
def tariffCommitAction (s : State) : State := editPending 0x58 (fun t => { t with commitMark := true }) s

/-- TRACTION_MASK or HEATING_MASK. -/
def bandMaskAction (item : MaskItem) (v : Word) (s : State) : State :=
  let m := BitVec.ofNat 4 (min 15 v.toNat)
  match item with
  | .traction => s.modTtc fun t => { t with tractionWritten := m }
  | .heating => s.modTtc fun t => { t with heatingWritten := m }

/-! ### Records (R169, R171) -/

/-- RETIRE. -/
def retireAction (v : Word) (s : State) : State :=
  match retireRefusal s v with
  | some r => refuse .fp r 0x69 s
  | none => freeBank s.brs.retireBank s

/-- CURSOR_SET. -/
def cursorAction (p : Port) (v : Word) (s : State) : State := setCursor p (cursorFor v) s

/-! ### Port items (R181, R183) -/

/-- The state with a port changed by `f`. -/
def modPort (p : Port) (f : PortState → PortState) (s : State) : State :=
  match p with
  | .vp => s.modVp f
  | .fp => s.modFp f

/-- SNAPSHOT: 0 is off, every other value is clamped to 1, on (R181). -/
def snapshotAction (p : Port) (v : Word) (s : State) : State :=
  let copy := if v = 0 then none else some (snapshotCopy p s)
  modPort p (fun q => { q with snapshot := copy }) s

/-- EVENT_MASK. -/
def maskAction (p : Port) (v : Word) (s : State) : State := modPort p (fun q => { q with mask := v }) s

/-! ### The writes of ITEM_WRITE: items with no row of their own -/

/-- A write of a setting of the Vehicle Port that has no row of its own. -/
def vpSetting (n : Nat) (v : Word) (s : State) : State :=
  match n with
  | 0x2B => s.modAlc fun a => { a with currentLimit := clampWord 0 2000 v }
  | 0x2C => s.modAlc fun a => { a with powerLimit := clampWord 0 22000 v }
  | 0x36 => s.modBhc fun b => { b with currentLimit := clampWord 500 16000 v }
  | 0x37 => s.modBhc fun b => { b with allowance := clampWord 1 20000 v }
  | 0x38 => s.modBhc fun b => { b with cap := clampWord 0 9000 v }
  | 0x44 => s.modImn fun m => { m with settleMs := clampWord 100 2000 v }
  | 0x45 => s.modImn fun m => { m with spacingS := clampWord 1 60 v }
  | 0x5F => s.modSel fun x => { x with meter := min 13 v.toNat }
  | _ => s

/-- A byte clamped to 255 from a written value (R52). -/
def byteOfWord (v : Word) : Byte := BitVec.ofNat 8 (min 255 v.toNat)

/-- A write of a setting of the Fleet Port that has no row of its own. -/
def fpSetting (n : Nat) (v : Word) (s : State) : State :=
  match n with
  | 0x20 => s.modImn fun m => { m with bridge := clampWord 100 2000 v }
  | 0x21 => s.modBhc fun b => { b with resistance := clampWord 50 2000 v }
  | 0x22 => s.modAlc fun a => { a with efficiency := clampWord 800 990 v }
  | 0x23 => s.modMtr fun m => { m with creep := clampWord 0 500 v }
  | 0x24 => s.modBrs fun r => { r with proceed := v != 0 }
  | 0x25 => s.modBrs fun r => { r with account := v }
  | 0x26 => s.modSlc fun l => { l with group2Value := byteOfWord v }
  | 0x27 => s.modSlc fun l => { l with group2Mask := byteOfWord v }
  | 0x28 => s.modSlc fun l => { l with group3Value := byteOfWord v }
  | 0x29 => s.modSlc fun l => { l with group3Mask := byteOfWord v }
  | 0x48 => s.modTtc fun t => { t with timeDay := v.toNat }
  | 0x49 => s.modTtc fun t => { t with timeHigh := min 1 v.toNat }
  | 0x4A => s.modTtc fun t => { t with timeLow := v.toNat }
  | 0x51 => s.modTtc fun t => { t with stagedHigh := min 1 v.toNat }
  | 0x52 => s.modTtc fun t => { t with stagedLow := v.toNat }
  | 0x60 => s.modSel fun x => { x with table := min 15 v.toNat }
  | 0x68 => s.modBrs fun r => { r with retireBank := octOfWord v }
  | 0x70 => s.modSel fun x => { x with verif := min 5 v.toNat }
  | _ => s

/-- The command of a SESSION_CMD value; a value outside the list is refused with BAD_ITEM (R176 order 4). -/
def sessionCommand (v : Word) (s : State) : State :=
  if v = 1 then authorizeAction s else if v = 2 then pauseAction s else if v = 3 then resumeAction s
  else if v = 4 then stopAction s else refuse .vp .badItem 0x20 s

/-- The command of a HEATER_CMD value. -/
def heaterCommand (v : Word) (s : State) : State :=
  if v = 1 then heatRunAction s else if v = 2 then heatStopAction s else if v = 3 then heaterUnlockAction s
  else refuse .vp .badItem 0x39 s

/-- An accepted write at the Vehicle Port from 20h up (R178). -/
def vpWrite (n : Nat) (v : Word) (s : State) : State :=
  match n with
  | 0x20 => sessionCommand v s
  | 0x21 => if v = 1 then vehicleRestart s else refuse .vp .badItem 0x21 s
  | 0x2A => ratingAction v s
  | 0x32 => packTempAction v s
  | 0x33 => demandSettingAction .target v s
  | 0x34 => demandSettingAction .gain v s
  | 0x35 => demandSettingAction .maxPower v s
  | 0x39 => heaterCommand v s
  | 0x42 => thresholdAction .warning v s
  | 0x43 => thresholdAction .fault v s
  | 0x46 => retestAction s
  | 0x58 => blockAction v s
  | n => if within 0x50 0x57 n then standbyAction (octOf n) v s else vpSetting n v s

/-- An accepted write at the Fleet Port from 20h up (R179). -/
def fpWrite (n : Nat) (v : Word) (s : State) : State :=
  match n with
  | 0x40 => substConfigAction .select v s
  | 0x41 => substConfigAction .pattern v s
  | 0x42 => substConfigAction .value1 v s
  | 0x43 => substConfigAction .value2 v s
  | 0x44 => substStartAction s
  | 0x45 => substStopAction s
  | 0x4B => timeSetAction s
  | 0x50 => pendingClearAction s
  | 0x53 => pendingAddAction v s
  | 0x58 => tariffCommitAction s
  | 0x59 => bandMaskAction .traction v s
  | 0x5A => bandMaskAction .heating v s
  | 0x69 => retireAction v s
  | n =>
    if within 0x30 0x37 n then calibrationAction .offset (octOf n) v s
    else if within 0x38 0x3F n then calibrationAction .gain (octOf n) v s
    else if within 0x54 0x57 n then pendingPriceAction (bandOf n) v s
    else fpSetting n v s

/-- An accepted write of a common item (R177). -/
def commonWrite (p : Port) (n : Nat) (v : Word) (s : State) : State :=
  match n with
  | 0x01 => snapshotAction p v s
  | 0x03 => maskAction p v s
  | 0x05 => cursorAction p v s
  | _ => s

/-- Orders 2 to 5 of R176 for a write of item `code` with value `v`. -/
def checkedWrite (p : Port) (code : Byte) (v : Word) (s : State) : State :=
  let n := code.toNat
  match rightOf p n with
  | .none => refuse p .badItem code s
  | .read | .effect => refuse p .notPermitted code s
  | _ =>
    if n < 0x20 then commonWrite p n v s
    else
      match p with
      | .vp => vpWrite n v s
      | .fp => fpWrite n v s

/-! ### Reads with an effect (R170, R171, R182) -/

/-- The effect of a read of item `n`. -/
def readEffect (p : Port) (n : Nat) (s : State) : State :=
  match n with
  | 0x02 => modPort p (fun q => { q with events := 0 }) s
  | 0x07 => setCursor p (cursorAfterRead s.brs.mem (cursorOf p s.brs)) s
  | 0x6A => if p = .fp ∧ s.fp.snapshot.isNone then takeUnrecordedCopy s else s
  | 0x6D =>
    if p = .fp then (if s.fp.snapshot.isNone then clearUnrecorded s else refuse .fp .snapshot 0x6D s) else s
  | _ => s

/-- The value a read returns, with FP_UNRECORDED_CLEAR's FFFFh under the snapshot (R181). -/
def readResult (p : Port) (n : Nat) (s : State) : Word :=
  if p = .fp ∧ n = 0x6D ∧ s.fp.snapshot.isSome then absentWord else readValue p n s

/-! ### Words (R175, R176) -/

/-- A complete word, in its window: data out carried the pending output, if any, and the word releases it. -/
def PortState.takeWord (p : PortState) : PortState :=
  { p with windowOpen := true, dataOut := p.pendingOut.getD (0xFF, absentWord), pendingOut := none }

/-- A complete word: ignored in a window that stood open at start-up (R185), else taken and acted on by `act`. -/
def takeWord (p : Port) (act : State → State) (s : State) : State :=
  if (portOf p s).ignoring then s else act (modPort p PortState.takeWord s)

/-- A complete word that writes item `code`: refused under the snapshot, else `act` (R176). -/
def writeWord (p : Port) (code : Byte) (act : State → State) (s : State) : State :=
  takeWord p (fun s => if (portOf p s).snapshot.isSome then refuse p .snapshot code s else act s) s

/-- What a read of item `n` does: its effect, and the value as pending output (R175). -/
def readAction (p : Port) (n : Nat) (s : State) : State :=
  let v := readResult p n s
  modPort p (fun q => { q with pendingOut := some (BitVec.ofNat 8 (0x80 + n), v) }) (readEffect p n s)

/-- A complete word that reads item `n` (R175). -/
def readWord (p : Port) (n : Nat) (s : State) : State := takeWord p (readAction p n) s

/-- A complete word that writes SNAPSHOT, taken under the snapshot too (R181). -/
def snapshotWord (p : Port) (v : Word) (s : State) : State := takeWord p (snapshotAction p v) s

/-- A rise of select: it ends the window, an ignored one too (R174, R185). -/
def endWindow (p : Port) (s : State) : State := modPort p (fun q => { q with windowOpen := false, ignoring := false }) s

end Sys2Proof.Machine
end

