-- ==== Sys2Proof/Machine/Ports.lean ====
section
/-! DEFINITION. The commands of the Vehicle Port and the Fleet Port (chapter 10): one definition per row, over the words of
Machine/Writes.lean. -/
namespace Sys2Proof.Machine

/-- INCOMPLETE_WORD (R174, R175, R185): fewer than 24 bits are discarded, the output stays pending, and the rise of select ends the
window. DEDUCED, safe (log entry 6). -/
def execIncompleteWord (p : Port) (_ : Nat) (s : State) : Host.Outcome State Fault Refusal := .next (endWindow p s)

/-! ### Vehicle Port commands -/

/-- AUTHORIZE (R20). -/
def execAuthorize (s : State) : Host.Outcome State Fault Refusal := .next (writeWord .vp 0x20 authorizeAction s)

/-- PAUSE (R20). -/
def execPause (s : State) : Host.Outcome State Fault Refusal := .next (writeWord .vp 0x20 pauseAction s)

/-- RESUME (R20). -/
def execResume (s : State) : Host.Outcome State Fault Refusal := .next (writeWord .vp 0x20 resumeAction s)

/-- STOP (R20). -/
def execStop (s : State) : Host.Outcome State Fault Refusal := .next (writeWord .vp 0x20 stopAction s)

/-- RESTART (R184). -/
def execRestart (s : State) : Host.Outcome State Fault Refusal := .next (writeWord .vp 0x21 vehicleRestart s)

/-- HEAT_RUN (R105). -/
def execHeatRun (s : State) : Host.Outcome State Fault Refusal := .next (writeWord .vp 0x39 heatRunAction s)

/-- HEAT_STOP (R105). -/
def execHeatStop (s : State) : Host.Outcome State Fault Refusal := .next (writeWord .vp 0x39 heatStopAction s)

/-- HEATER_UNLOCK (R104). -/
def execHeaterUnlock (s : State) : Host.Outcome State Fault Refusal := .next (writeWord .vp 0x39 heaterUnlockAction s)

/-- RETEST (R82). -/
def execRetest (s : State) : Host.Outcome State Fault Refusal := .next (writeWord .vp 0x46 retestAction s)

/-- OBC_AC_RATING (R29). -/
def execObcAcRating (value : Word) (s : State) : Host.Outcome State Fault Refusal :=
  .next (writeWord .vp 0x2A (ratingAction value) s)

/-- PACK_TEMP (R93). -/
def execPackTemp (value : Word) (s : State) : Host.Outcome State Fault Refusal :=
  .next (writeWord .vp 0x32 (packTempAction value) s)

/-- The item code of a setting that recomputes the demand. -/
def demandItemCode : DemandItem → Byte
  | .target => 0x33
  | .gain => 0x34
  | .maxPower => 0x35

/-- DEMAND_SETTING_WRITE (R94). -/
def execDemandSettingWrite (item : DemandItem) (value : Word) (s : State) : Host.Outcome State Fault Refusal :=
  .next (writeWord .vp (demandItemCode item) (demandSettingAction item value) s)

/-- The item code of a threshold. -/
def thresholdItemCode : ThresholdItem → Byte
  | .warning => 0x42
  | .fault => 0x43

/-- THRESHOLD_WRITE (R70). -/
def execThresholdWrite (item : ThresholdItem) (value : Word) (s : State) : Host.Outcome State Fault Refusal :=
  .next (writeWord .vp (thresholdItemCode item) (thresholdAction item value) s)

/-- CH_STANDBY (R110). -/
def execChStandby (channel : Fin 8) (value : Word) (s : State) : Host.Outcome State Fault Refusal :=
  .next (writeWord .vp (BitVec.ofNat 8 (0x50 + channel.val)) (standbyAction channel value) s)

/-- IAC_BLOCK (R116). -/
def execIacBlock (value : Word) (s : State) : Host.Outcome State Fault Refusal :=
  .next (writeWord .vp 0x58 (blockAction value) s)

/-! ### Fleet Port commands -/

/-- SUBST_START (R121). -/
def execSubstStart (s : State) : Host.Outcome State Fault Refusal := .next (writeWord .fp 0x44 substStartAction s)

/-- SUBST_STOP (R122). -/
def execSubstStop (s : State) : Host.Outcome State Fault Refusal := .next (writeWord .fp 0x45 substStopAction s)

/-- TIME_SET (R146). -/
def execTimeSet (s : State) : Host.Outcome State Fault Refusal := .next (writeWord .fp 0x4B timeSetAction s)

/-- PENDING_CLEAR (R150). -/
def execPendingClear (s : State) : Host.Outcome State Fault Refusal := .next (writeWord .fp 0x50 pendingClearAction s)

/-- PENDING_ADD (R150). -/
def execPendingAdd (value : Word) (s : State) : Host.Outcome State Fault Refusal :=
  .next (writeWord .fp 0x53 (pendingAddAction value) s)

/-- PENDING_PRICE (R150). -/
def execPendingPrice (band : Band) (value : Word) (s : State) : Host.Outcome State Fault Refusal :=
  .next (writeWord .fp (priceCode band) (pendingPriceAction band value) s)

/-- TARIFF_COMMIT (R151). -/
def execTariffCommit (s : State) : Host.Outcome State Fault Refusal := .next (writeWord .fp 0x58 tariffCommitAction s)

/-- The item code of a band mask. -/
def maskItemCode : MaskItem → Byte
  | .traction => 0x59
  | .heating => 0x5A

/-- BAND_MASK_WRITE (R149). -/
def execBandMaskWrite (item : MaskItem) (value : Word) (s : State) : Host.Outcome State Fault Refusal :=
  .next (writeWord .fp (maskItemCode item) (bandMaskAction item value) s)

/-- RETIRE (R169). -/
def execRetire (value : Word) (s : State) : Host.Outcome State Fault Refusal :=
  .next (writeWord .fp 0x69 (retireAction value) s)

/-- UNRECORDED_IMPORT_HIGH (R170). -/
def execUnrecordedImportHigh (s : State) : Host.Outcome State Fault Refusal := .next (readWord .fp 0x6A s)

/-- FP_UNRECORDED_CLEAR (R170, R181). -/
def execFpUnrecordedClear (s : State) : Host.Outcome State Fault Refusal := .next (readWord .fp 0x6D s)

/-- CALIBRATION_WRITE (R114). -/
def execCalibrationWrite (item : CalItem) (channel : Fin 8) (value : Word) (s : State) : Host.Outcome State Fault Refusal :=
  .next (writeWord .fp (calCode item channel) (calibrationAction item channel value) s)

/-- SUBST_CONFIG_WRITE (R119). -/
def execSubstConfigWrite (item : SubstItem) (value : Word) (s : State) : Host.Outcome State Fault Refusal :=
  .next (writeWord .fp (substItemCode item) (substConfigAction item value) s)

/-! ### Commands of both ports -/

/-- SNAPSHOT (R181): taken under the snapshot too. -/
def execSnapshot (p : Port) (value : Word) (s : State) : Host.Outcome State Fault Refusal :=
  .next (snapshotWord p value s)

/-- EVENT_MASK (R183). -/
def execEventMask (p : Port) (value : Word) (s : State) : Host.Outcome State Fault Refusal :=
  .next (writeWord p 0x03 (maskAction p value) s)

/-- EVENTS (R182). -/
def execEvents (p : Port) (s : State) : Host.Outcome State Fault Refusal := .next (readWord p 0x02 s)

/-- CURSOR_SET (R171). -/
def execCursorSet (p : Port) (value : Word) (s : State) : Host.Outcome State Fault Refusal :=
  .next (writeWord p 0x05 (cursorAction p value) s)

/-- RECORD_WORD (R171). -/
def execRecordWord (p : Port) (s : State) : Host.Outcome State Fault Refusal := .next (readWord p 0x07 s)

/-- ITEM_WRITE (R174 to R176): any other complete word, a read from code 80h up. -/
def execItemWrite (p : Port) (code : Byte) (value : Word) (s : State) : Host.Outcome State Fault Refusal :=
  .next
    (if 0x80 ≤ code.toNat then readWord p (code.toNat - 0x80) s
     else if code = 0x01 then snapshotWord p value s
     else writeWord p code (checkedWrite p code value) s)

end Sys2Proof.Machine
end

