-- ==== Sys2Proof/Machine/Dispatch.lean ====
section
/-! DEFINITION. The dispatch of a command to its meaning: one arm per command. -/
namespace Sys2Proof.Machine

/-- The effect of a command on everything but the queue of waiting commands. -/
def exec (i : Instr) (s : State) : Host.Outcome State Fault Refusal :=
  match i with
  | .powerOn => Sys2Proof.Machine.execPowerOn s
  | .plugDetectRise => Sys2Proof.Machine.execPlugDetectRise s
  | .plugDetectFall => Sys2Proof.Machine.execPlugDetectFall s
  | .supplyFailWarning => Sys2Proof.Machine.execSupplyFailWarning s
  | .supplyFailWarningRelease => Sys2Proof.Machine.execSupplyFailWarningRelease s
  | .converterReadyRise => Sys2Proof.Machine.execConverterReadyRise s
  | .converterReadyFall => Sys2Proof.Machine.execConverterReadyFall s
  | .converterFault => Sys2Proof.Machine.execConverterFault s
  | .converterFaultRelease => Sys2Proof.Machine.execConverterFaultRelease s
  | .senseDieStart => Sys2Proof.Machine.execSenseDieStart s
  | .setTime conv => Sys2Proof.Machine.execSetTime conv s
  | .barrierFrameArrival frame => Sys2Proof.Machine.execBarrierFrameArrival frame s
  | .metrologySlot order intact => Sys2Proof.Machine.execMetrologySlot order intact s
  | .periodClose order => Sys2Proof.Machine.execPeriodClose order s
  | .contentClosed bits => Sys2Proof.Machine.execContentClosed bits s
  | .errorAbort bits => Sys2Proof.Machine.execErrorAbort bits s
  | .errorLong bits => Sys2Proof.Machine.execErrorLong bits s
  | .txAccessStart ones => Sys2Proof.Machine.execTxAccessStart ones s
  | .frameSuccess => Sys2Proof.Machine.execFrameSuccess s
  | .arbitrationLost pos => Sys2Proof.Machine.execArbitrationLost pos s
  | .lateMismatch pos => Sys2Proof.Machine.execLateMismatch pos s
  | .assign => Sys2Proof.Machine.execAssign s
  | .offer => Sys2Proof.Machine.execOffer s
  | .auth => Sys2Proof.Machine.execAuth s
  | .time => Sys2Proof.Machine.execTime s
  | .stationPauseFrame => Sys2Proof.Machine.execStationPauseFrame s
  | .stationResumeFrame => Sys2Proof.Machine.execStationResumeFrame s
  | .stationStopFrame => Sys2Proof.Machine.execStationStopFrame s
  | .nonStationFrameDiscard => Sys2Proof.Machine.execNonStationFrameDiscard s
  | .helloTimerExpiry => Sys2Proof.Machine.execHelloTimerExpiry s
  | .silence1000Ms => Sys2Proof.Machine.execSilence1000Ms s
  | .silence10000Ms => Sys2Proof.Machine.execSilence10000Ms s
  | .pauseTimerExpiry => Sys2Proof.Machine.execPauseTimerExpiry s
  | .linkLossAgeExpiry => Sys2Proof.Machine.execLinkLossAgeExpiry s
  | .checkingTimerExpiry => Sys2Proof.Machine.execCheckingTimerExpiry s
  | .readyTimerExpiry => Sys2Proof.Machine.execReadyTimerExpiry s
  | .stoppingTimerExpiry => Sys2Proof.Machine.execStoppingTimerExpiry s
  | .requestTimerExpiry => Sys2Proof.Machine.execRequestTimerExpiry s
  | .meterTimerExpiry => Sys2Proof.Machine.execMeterTimerExpiry s
  | .statusTimerExpiry => Sys2Proof.Machine.execStatusTimerExpiry s
  | .allocationTimerExpiry => Sys2Proof.Machine.execAllocationTimerExpiry s
  | .spacingTimerExpiry => Sys2Proof.Machine.execSpacingTimerExpiry s
  | .settleTimerExpiry => Sys2Proof.Machine.execSettleTimerExpiry s
  | .settleEnd => Sys2Proof.Machine.execSettleEnd s
  | .averagingEnd order => Sys2Proof.Machine.execAveragingEnd order s
  | .disabledTimerExpiry => Sys2Proof.Machine.execDisabledTimerExpiry s
  | .stalenessTimerExpiry => Sys2Proof.Machine.execStalenessTimerExpiry s
  | .runTimerExpiry => Sys2Proof.Machine.execRunTimerExpiry s
  | .isolationTimerExpiry => Sys2Proof.Machine.execIsolationTimerExpiry s
  | .incompleteWord p bits => Sys2Proof.Machine.execIncompleteWord p bits s
  | .authorize => Sys2Proof.Machine.execAuthorize s
  | .pause => Sys2Proof.Machine.execPause s
  | .resume => Sys2Proof.Machine.execResume s
  | .stop => Sys2Proof.Machine.execStop s
  | .restart => Sys2Proof.Machine.execRestart s
  | .heatRun => Sys2Proof.Machine.execHeatRun s
  | .heatStop => Sys2Proof.Machine.execHeatStop s
  | .heaterUnlock => Sys2Proof.Machine.execHeaterUnlock s
  | .retest => Sys2Proof.Machine.execRetest s
  | .substStart => Sys2Proof.Machine.execSubstStart s
  | .substStop => Sys2Proof.Machine.execSubstStop s
  | .timeSet => Sys2Proof.Machine.execTimeSet s
  | .pendingClear => Sys2Proof.Machine.execPendingClear s
  | .pendingAdd value => Sys2Proof.Machine.execPendingAdd value s
  | .pendingPrice band value => Sys2Proof.Machine.execPendingPrice band value s
  | .tariffCommit => Sys2Proof.Machine.execTariffCommit s
  | .bandMaskWrite item value => Sys2Proof.Machine.execBandMaskWrite item value s
  | .retire value => Sys2Proof.Machine.execRetire value s
  | .snapshot p value => Sys2Proof.Machine.execSnapshot p value s
  | .eventMask p value => Sys2Proof.Machine.execEventMask p value s
  | .events p => Sys2Proof.Machine.execEvents p s
  | .cursorSet p value => Sys2Proof.Machine.execCursorSet p value s
  | .recordWord p => Sys2Proof.Machine.execRecordWord p s
  | .unrecordedImportHigh => Sys2Proof.Machine.execUnrecordedImportHigh s
  | .fpUnrecordedClear => Sys2Proof.Machine.execFpUnrecordedClear s
  | .obcAcRating value => Sys2Proof.Machine.execObcAcRating value s
  | .packTemp value => Sys2Proof.Machine.execPackTemp value s
  | .demandSettingWrite item value => Sys2Proof.Machine.execDemandSettingWrite item value s
  | .thresholdWrite item value => Sys2Proof.Machine.execThresholdWrite item value s
  | .chStandby channel value => Sys2Proof.Machine.execChStandby channel value s
  | .iacBlock value => Sys2Proof.Machine.execIacBlock value s
  | .calibrationWrite item channel value => Sys2Proof.Machine.execCalibrationWrite item channel value s
  | .substConfigWrite item value => Sys2Proof.Machine.execSubstConfigWrite item value s
  | .itemWrite p code value => Sys2Proof.Machine.execItemWrite p code value s
  | .delimiterCompletes => Sys2Proof.Machine.execDelimiterCompletes s
  | .lineGoingIdle => Sys2Proof.Machine.execLineGoingIdle s

end Sys2Proof.Machine
end

