-- ==== Sys2Proof/Machine/Step.lean ====
section
/-! DEFINITION. One step: the command at the front of the queue runs on the state with the queue's rest; on an empty queue the block
idles. -/
namespace Sys2Proof.Machine

/-- Put a command at the front of the queue. -/
def State.withFront (s : State) (c : Instr) : State := { s with pending := c :: s.pending }

/-- One step. The queue, and the idling on an empty one, are a DESIGN CHOICE, safe (log entry 1). -/
def step (s : State) : Host.Outcome State Fault Refusal :=
  match s.pending with
  | [] => .next s
  | c :: rest => exec c { s with pending := rest }

/-- The state with the command that a word of the opcode table spells at the front of its queue, unchanged where the word spells
none, which is every word, since the table gives no bits: DEDUCED, safe (log entry 8). -/
def State.withFetchWord (s : State) (nbits w : Nat) : State :=
  match decodeTableWord nbits w with
  | none => s
  | some c => s.withFront c

end Sys2Proof.Machine
end

