-- ==== Sys2Proof/Safety.lean ====
section
/-! DEFINITION. What a safe state of the part is, in the terms the statements use: the frame of a command block by block, and the
invariants that every step keeps. -/
namespace Sys2Proof.Machine

/-! ### Frames -/

/-- The parts of the state a frame speaks of, one per field of the state. -/
inductive Area where
  | pins
  | csc
  | alc
  | slc
  | imn
  | bhc
  | sfe
  | ble
  | asm
  | mtr
  | ttc
  | brs
  | vp
  | fp
  | sel
  | pending
  deriving DecidableEq, Repr

/-- Two states agree in an area. -/
def Area.same : Area → State → State → Prop
  | .pins, s, t => t.pins = s.pins
  | .csc, s, t => t.csc = s.csc
  | .alc, s, t => t.alc = s.alc
  | .slc, s, t => t.slc = s.slc
  | .imn, s, t => t.imn = s.imn
  | .bhc, s, t => t.bhc = s.bhc
  | .sfe, s, t => t.sfe = s.sfe
  | .ble, s, t => t.ble = s.ble
  | .asm, s, t => t.asm = s.asm
  | .mtr, s, t => t.mtr = s.mtr
  | .ttc, s, t => t.ttc = s.ttc
  | .brs, s, t => t.brs = s.brs
  | .vp, s, t => t.vp = s.vp
  | .fp, s, t => t.fp = s.fp
  | .sel, s, t => t.sel = s.sel
  | .pending, s, t => t.pending = s.pending

/-- The state `t` agrees with `s` in every area outside `l`. -/
def keepsAllBut (l : List Area) (s t : State) : Prop := ∀ a, a ∉ l → a.same s t

/-- The areas that a command may change; all others it leaves as they are. -/
def touched : Instr → List Area
  | .powerOn => [.csc, .alc, .slc, .imn, .bhc, .ble, .asm, .mtr, .ttc, .brs, .vp, .fp, .sel]
  | .plugDetectRise => [.pins, .csc, .alc, .slc, .imn, .bhc, .asm, .brs, .vp]
  | .plugDetectFall | .supplyFailWarning => [.pins, .csc, .alc, .slc, .imn, .bhc, .brs, .vp, .fp]
  | .supplyFailWarningRelease | .converterReadyRise => [.pins, .csc, .alc, .imn, .bhc, .brs, .vp]
  | .converterReadyFall | .converterFault => [.pins, .csc, .alc, .slc, .imn, .bhc, .brs, .vp]
  | .converterFaultRelease => [.pins, .csc, .imn, .vp]
  | .senseDieStart | .setTime _ => [.sfe]
  | .barrierFrameArrival _ => [.ble]
  | .metrologySlot _ _ => [.csc, .alc, .slc, .imn, .bhc, .sfe, .ble, .asm, .mtr, .ttc, .brs, .vp, .fp]
  | .periodClose _ => [.csc, .alc, .slc, .imn, .bhc, .asm, .mtr, .ttc, .brs, .vp, .fp]
  | .contentClosed _ | .errorAbort _ | .errorLong _ | .txAccessStart _ | .frameSuccess | .arbitrationLost _ | .lateMismatch _
  | .offer | .stationPauseFrame | .stationResumeFrame | .silence1000Ms | .pauseTimerExpiry | .allocationTimerExpiry | .pause
  | .resume | .delimiterCompletes | .lineGoingIdle => [.csc, .alc, .slc, .imn, .bhc, .brs, .vp]
  | .assign | .helloTimerExpiry => [.csc, .slc, .vp]
  | .auth => [.csc, .slc, .brs]
  | .time => [.csc, .slc, .ttc, .brs]
  | .stationStopFrame | .checkingTimerExpiry | .stoppingTimerExpiry | .averagingEnd _ | .stop =>
    [.csc, .alc, .slc, .imn, .bhc, .brs, .vp, .fp]
  | .nonStationFrameDiscard | .requestTimerExpiry | .meterTimerExpiry | .statusTimerExpiry => [.csc, .slc]
  | .silence10000Ms => [.csc, .alc, .slc, .imn, .vp]
  | .linkLossAgeExpiry | .readyTimerExpiry | .obcAcRating _ => [.csc, .alc, .slc, .vp]
  | .spacingTimerExpiry | .settleTimerExpiry | .disabledTimerExpiry => [.imn]
  | .settleEnd => [.alc, .imn, .bhc]
  | .stalenessTimerExpiry | .runTimerExpiry | .heatStop | .heaterUnlock | .packTemp _ | .demandSettingWrite _ _ =>
    [.alc, .imn, .bhc, .brs, .vp]
  | .isolationTimerExpiry => [.imn, .bhc]
  | .authorize => [.csc, .imn, .vp]
  | .restart => [.csc, .alc, .slc, .imn, .bhc, .asm, .brs, .vp, .fp, .sel]
  | .heatRun => [.alc, .imn, .bhc, .mtr, .brs, .vp]
  | .retest | .thresholdWrite _ _ => [.imn, .vp]
  | .substStart => [.alc, .imn, .bhc, .asm, .mtr, .brs, .vp, .fp]
  | .substStop => [.csc, .alc, .imn, .bhc, .asm, .brs, .vp, .fp]
  | .timeSet => [.ttc, .brs, .fp]
  | .pendingClear | .pendingAdd _ | .pendingPrice _ _ | .tariffCommit | .bandMaskWrite _ _ => [.ttc, .fp]
  | .retire _ | .unrecordedImportHigh | .fpUnrecordedClear => [.brs, .fp]
  | .chStandby _ _ | .iacBlock _ => [.asm, .vp]
  | .calibrationWrite _ _ _ | .substConfigWrite _ _ => [.asm, .fp]
  | .snapshot .vp _ => [.vp]
  | .snapshot .fp _ => [.fp]
  | .incompleteWord .vp _ => [.vp]
  | .incompleteWord .fp _ => [.fp]
  | .eventMask .vp _ => [.vp]
  | .eventMask .fp _ => [.fp]
  | .events .vp => [.vp]
  | .events .fp => [.fp]
  | .cursorSet .vp _ => [.brs, .vp]
  | .cursorSet .fp _ => [.brs, .fp]
  | .recordWord .vp => [.brs, .vp]
  | .recordWord .fp => [.brs, .fp]
  | .itemWrite .vp _ _ => [.csc, .alc, .slc, .imn, .bhc, .asm, .mtr, .brs, .vp, .fp, .sel]
  | .itemWrite .fp _ _ => [.csc, .alc, .slc, .imn, .bhc, .asm, .mtr, .ttc, .brs, .vp, .fp, .sel]

/-! ### Invariants -/

/-- The converter's side of a safe state (R11, R31, R41, R42, R81). A session that may charge has the converter enabled and the
allocation timer running; with the timer stopped every result of the allocator is 0; with the enable off the setpoint and its
target are 0; and an insulation fault of the bus has the enable off and no live session. -/
structure ConverterSafe (s : State) : Prop where
  live_enabled : s.csc.session.isLive = true → s.csc.enable = true
  enable_open : s.csc.enable = true → s.csc.session.isOpen = true
  timer_open : s.alc.timer.isSome = s.csc.session.isOpen
  stopped_zero : s.alc.timer = none →
    s.alc.setpoint = 0 ∧ s.alc.target = 0 ∧ s.alc.lastRequest = 0 ∧ s.alc.grant = 0 ∧ s.alc.share = 0
  disabled_zero : s.csc.enable = false → s.alc.setpoint = 0 ∧ s.alc.target = 0
  fault_off : s.imn.verdict = .fault → s.imn.cause = .bus → s.csc.enable = false

/-- The heater's side of a safe state (R97, R98): the contactor is open in OFF, ISOLATED, LOCKED_OUT and SPENT, the duty is
non-zero only in HEATING and QUIET and is at most 1,024, and the duty grant is 0 whenever the duty is. -/
structure HeaterSafe (b : Bhc) : Prop where
  contactor_open : b.st = .off ∨ b.st = .isolated ∨ b.st = .lockedOut ∨ b.st = .spent → b.contactor = false
  duty_zero : b.st ≠ .heating → b.st ≠ .quiet → b.duty = 0
  duty_range : b.duty ≤ 1024
  grant_zero : b.duty = 0 → b.dutyGrant = 0

/-- The quiet flags of the Charge Allocator and of the heater both follow the Insulation Monitor's window, which is open exactly in
the averaging states (R71). -/
def QuietFollowsWindow (s : State) : Prop :=
  s.alc.quiet = s.imn.st.isAveraging ∧ s.bhc.quiet = s.imn.st.isAveraging

/-- The settings of the Insulation Monitor are in range, and the fault threshold is not above the warning threshold (R70). -/
def ThresholdsInRange (m : Imn) : Prop :=
  100 ≤ m.warnThreshold ∧ m.warnThreshold ≤ 1000 ∧ 50 ≤ m.faultThreshold ∧ m.faultThreshold ≤ 500
    ∧ m.faultThreshold ≤ m.warnThreshold ∧ 100 ≤ m.bridge ∧ m.bridge ≤ 2000 ∧ 100 ≤ m.settleMs ∧ m.settleMs ≤ 2000
    ∧ 1 ≤ m.spacingS ∧ m.spacingS ≤ 60

/-- A positive accumulator holds less than one watt-hour in its remainder, and its counter fits 32 bits (R124, R136). -/
def AccInRange (a : Acc) : Prop := a.rem < Config.whUnit ∧ a.wh < 4294967296

/-- The import/export accumulator holds less than one watt-hour of either sign in its remainder (R136). -/
def NetInRange (a : NetAcc) : Prop :=
  -(Config.whUnit : Int) < a.rem ∧ a.rem < (Config.whUnit : Int) ∧ a.imp < 4294967296 ∧ a.exp < 4294967296

/-- Every accumulator of a band group is in range. -/
def QuadInRange (q : Quad Acc) : Prop := AccInRange q.b0 ∧ AccInRange q.b1 ∧ AccInRange q.b2 ∧ AccInRange q.b3

/-- Every accumulator of the Metering Engine is in range (R124, R136). -/
structure MeterInRange (m : Mtr) : Prop where
  net : NetInRange m.sess.net
  traction : QuadInRange m.sess.traction
  heating : QuadInRange m.sess.heating
  dcOut : AccInRange m.sess.dcOut
  heaterDc : AccInRange m.sess.heaterDc
  ticks : m.sess.tractionTicks < 281474976710656 ∧ m.sess.heatingTicks < 281474976710656
  unrecorded : m.unrecordedRem < Config.whUnit
  verifNet : NetInRange m.verif.net
  verifTraction : AccInRange m.verif.traction
  verifHeating : AccInRange m.verif.heating
  verifDcOut : AccInRange m.verif.dcOut
  verifHeaterDc : AccInRange m.verif.heaterDc
  run : AccInRange m.run

/-- The starts of a table rise strictly above `lo`, each a multiple of 60 and at most 86,340 (R144). -/
def startsRise : Option Nat → List TariffEntry → Bool
  | _, [] => true
  | lo, e :: es =>
    (match lo with
      | none => true
      | some l => decide (l < e.start)) && e.start % 60 == 0 && decide (e.start ≤ 86340) && startsRise (some e.start) es

/-- A tariff table has the form R144 gives: at most eight entries, ascending by start, no two starts equal. -/
def tableOk (t : List TariffEntry) : Bool := decide (t.length ≤ 8) && startsRise none t

/-- The committed and the pending table both have their form (R144, R150). -/
def TablesOk (t : Ttc) : Prop := tableOk t.table = true ∧ tableOk t.pendingTable = true

/-- The receive queue holds at most two frames (R55), and the elastic store at most four sets (R111). -/
def BuffersInDepth (s : State) : Prop := s.slc.queue.length ≤ 2 ∧ s.ble.store.length ≤ 4

/-- A frame that waits or is handled carries fields that the receiver has treated (R54): a TIME holds a second of day up to
86,399. -/
def RxFrame.treated (f : RxFrame) : Bool :=
  match f.msg with
  | .time _ second => decide (second ≤ 86399)
  | _ => true

/-- The clock shows a second of day up to 86,399 (R144), and no frame on its way to it carries another. -/
def ClockInRange (s : State) : Prop :=
  s.ttc.second ≤ 86399 ∧ (∀ f ∈ s.slc.queue, f.treated = true) ∧ (∀ f, s.csc.dispatcher = some f → f.treated = true)

/-- No stop reason stands in CHECKING (R9, R20), the mark of a frame taken in UNPLUGGED stands only with a frame in handling (R2,
R21), and only an open session has an OPEN bank, one at most (R157). -/
def SessionInRange (s : State) : Prop :=
  (s.csc.session = .checking → s.csc.stopReason = none)
  ∧ (s.csc.takenUnplugged = true → s.csc.dispatcher.isSome = true)
  ∧ ∀ b, (s.brs.banks.get b).st = .openBank → s.csc.session.isOpen = true ∧ openBank s = some b

/-- The Insulation Monitor's counts: at most two fault cycles, two only under the latch (R81), and fewer than two good cycles of a
retest (R82). -/
def CountsInRange (m : Imn) : Prop :=
  m.faultCount ≤ 2 ∧ (m.latch = false → m.faultCount < 2) ∧ ∀ r, m.retest = some r → r.good < 2

/-- A CHECK is pending only while the session is in CHECKING (R5, R6, R81). -/
def CheckStands (s : State) : Prop := s.imn.checkPending = true → s.csc.session = .checking

/-- The record store's own fields: slots 0 and 1 are the summary's and no slot lies above 63 (R155, R163), the unrecorded totals fit
their widths (R170), the working close reason is a code of R10 (R162), and a cursor stands on a word of a slot, past word 0 only with
its latch (R171). -/
def StoreInRange (r : Brs) : Prop :=
  (∀ b, 2 ≤ (r.banks.get b).next ∧ (r.banks.get b).next ≤ 64)
  ∧ r.unrecordedImport < 4294967296 ∧ r.unrecordedSessions < 65536
  ∧ (∀ c, r.copy = some c → c.imp < 4294967296 ∧ c.sessions < 65536)
  ∧ r.work.reason ≤ 12
  ∧ ∀ c, c = r.vpCursor ∨ c = r.fpCursor → c.slot < 64 ∧ c.word < 16 ∧ (c.word ≠ 0 → c.latch.isSome = true)

/-! ### Views that statements use -/

/-- The port takes writes: it is in no window that start-up found open (R185), and its snapshot is off (R181). -/
abbrev PortState.takesWrites (p : PortState) : Prop := p.ignoring = false ∧ p.snapshot = none

/-- The port and the item code that a write command of a port carries; SNAPSHOT apart, as a row of its own and as the item 01h. -/
def writtenItem : Instr → Option (Port × Byte)
  | .authorize | .pause | .resume | .stop => some (.vp, 0x20)
  | .restart => some (.vp, 0x21)
  | .heatRun | .heatStop | .heaterUnlock => some (.vp, 0x39)
  | .retest => some (.vp, 0x46)
  | .substStart => some (.fp, 0x44)
  | .substStop => some (.fp, 0x45)
  | .timeSet => some (.fp, 0x4B)
  | .pendingClear => some (.fp, 0x50)
  | .pendingAdd _ => some (.fp, 0x53)
  | .pendingPrice b _ => some (.fp, BitVec.ofNat 8 (0x54 + b.val))
  | .tariffCommit => some (.fp, 0x58)
  | .bandMaskWrite .traction _ => some (.fp, 0x59)
  | .bandMaskWrite .heating _ => some (.fp, 0x5A)
  | .retire _ => some (.fp, 0x69)
  | .eventMask p _ => some (p, 0x03)
  | .cursorSet p _ => some (p, 0x05)
  | .obcAcRating _ => some (.vp, 0x2A)
  | .packTemp _ => some (.vp, 0x32)
  | .demandSettingWrite .target _ => some (.vp, 0x33)
  | .demandSettingWrite .gain _ => some (.vp, 0x34)
  | .demandSettingWrite .maxPower _ => some (.vp, 0x35)
  | .thresholdWrite .warning _ => some (.vp, 0x42)
  | .thresholdWrite .fault _ => some (.vp, 0x43)
  | .chStandby c _ => some (.vp, BitVec.ofNat 8 (0x50 + c.val))
  | .iacBlock _ => some (.vp, 0x58)
  | .calibrationWrite .offset c _ => some (.fp, BitVec.ofNat 8 (0x30 + c.val))
  | .calibrationWrite .gain c _ => some (.fp, BitVec.ofNat 8 (0x38 + c.val))
  | .substConfigWrite .select _ => some (.fp, 0x40)
  | .substConfigWrite .pattern _ => some (.fp, 0x41)
  | .substConfigWrite .value1 _ => some (.fp, 0x42)
  | .substConfigWrite .value2 _ => some (.fp, 0x43)
  | .itemWrite p code _ => if code.toNat < 0x80 ∧ code ≠ 0x01 then some (p, code) else none
  | _ => none

/-- The port a complete word is taken at, of whichever kind; none for a command that is no complete word. -/
def portOfWord : Instr → Option Port
  | .snapshot p _ | .events p | .recordWord p | .itemWrite p _ _ => some p
  | .unrecordedImportHigh | .fpUnrecordedClear => some .fp
  | c => (writtenItem c).map fun x => x.1

/-- The frame that waits in the entry of a kind: the replacement while the entry's frame is on the line, else its frame (R56). -/
def waitingFrame (l : Slc) (k : TxKind) : Option TxFrame :=
  if l.onLine k then (l.table.get k).replacement else (l.table.get k).frame

/-- A frame of kind `k` as the part builds it under the own address `own` (R65, R67). -/
def partFrame (k : TxKind) (own : Byte) (payload : List Byte) : TxFrame :=
  { dest := destination own k, src := own, kind := k.code, payload := payload }

/-- The place of a kind in the order of R58: 0 is the first. -/
def TxKind.rank : TxKind → Nat
  | .stop => 0
  | .request => 1
  | .meter => 2
  | .status => 3
  | .hello => 4

/-- The frame `f` of kind `k` as it stands on the line (R46, R60): the first of an access opens with a delimiter of its own, the
second uses the closing delimiter of the first; arbitration runs through the kind byte. -/
def onTheLine (k : TxKind) (f : TxFrame) (second : Bool) : Sending :=
  let opening := if second then [] else delimiter
  { kind := k
    bits := opening ++ stuff (bitsOfBytes f.content) ++ delimiter
    arbitration := opening.length + (stuff (bitsOfBytes [f.dest, f.src, f.kind])).length
    sentBefore := boolNat second
    withdrawn := false }

/-- The line bits of a frame with these bytes before its check bytes, delimiters apart (R46). -/
def frameBits (body : List Byte) : List Bool := stuff (bitsOfBytes (body ++ checkBytes body))

/-- The payload of a REQUEST whose current field is `field` (R65). -/
def requestPayload (field : Nat) (session : Session) (seq : Nat) : List Byte := be16 field ++ be8 session.code ++ be8 seq

/-- The payload of a STATUS (R65). -/
def statusPayload (s : State) : List Byte := be8 s.csc.holds.mask ++ be8 s.imn.statusByte ++ be8 s.bhc.st.code

/-- The state when the handling of a frame ends without any other effect: the dispatcher takes the oldest frame that waits, or is
free (R21); a frame that it takes in UNPLUGGED is marked (R2). -/
def State.handled (s : State) : State :=
  { s with
    csc := { s.csc with
      dispatcher := s.slc.queue.head?
      takenUnplugged := !s.slc.queue.isEmpty && s.csc.session == .unplugged }
    slc := { s.slc with queue := s.slc.queue.tail } }

/-- The state a close leads to: ENDED, or LINKING at once where the silence has reached 10,000 ms (R18). -/
def closedSession (s : State) : Session := if s.csc.silence = some 10000 then .linking else .ended

/-- Every flag set in `a` is set in `b`. -/
def flagsWithin (a b : Word) : Prop := ∀ i, a.getLsbD i = true → b.getLsbD i = true

/-- The sample set that the next slot uses (R112): the oldest in the store, else the one before again where it was fresh, else none. -/
def Ble.setOfSlot (b : Ble) : Option SampleSet :=
  match b.store with
  | x :: _ => some x
  | [] => if b.prevKind = .fresh then b.prevSet else none

/-- The value that the pattern of a configured channel has in the present slot, none for a channel that is not configured (R119,
R120). -/
def SubstRecord.valueOfSlot (r : SubstRecord) (g : Generator) : Option Int :=
  match r.pattern with
  | .none => none
  | .ramp | .constant => some g.value.toInt
  | .prbs => some (g.register.setWidth 16).toInt
  | .alternate => some (if g.second then r.value2 else r.value1).toInt

/-- A pattern generator as the first running slot finds it (R119, R120). -/
def SubstRecord.atStart (r : SubstRecord) : Generator :=
  let seed := r.value2.toNat % 128 * 65536 + r.value1.toNat
  { value := r.value1, register := BitVec.ofNat 23 (if seed = 0 then 1 else seed), second := false }

/-- A pattern generator one slot on (R120). -/
def SubstRecord.oneSlotOn (r : SubstRecord) (g : Generator) : Generator :=
  match r.pattern with
  | .none | .constant => g
  | .ramp => { g with value := BitVec.ofInt 16 (if g.value.toInt = 32767 then -32768 else g.value.toInt + 1) }
  | .prbs =>
    { g with
      register := BitVec.ofNat 23
        (2 * g.register.toNat + (if g.register.getLsbD 22 = g.register.getLsbD 17 then 0 else 1)) }
  | .alternate => { g with second := !g.second }

/-- The value of a channel in a slot that uses the set `used`, none for weight 0 (R114, R115): its pattern's value where it is
substituted, else the corrected value of a set that marks it valid. -/
def Asm.valueOfSlot (a : Asm) (used : Option SampleSet) (c : Fin 8) : Option Int :=
  if a.substituting = true ∧ (a.substConfig.get c).pattern ≠ .none then
    (a.substConfig.get c).valueOfSlot (a.generators.get c)
  else
    match used with
    | none => none
    | some x =>
      if x.valid.getLsbD c.val then
        some (max (-32767) (min 32767 (Int.fdiv (((x.raw.get c).toInt - a.offset.get c) * a.gain.get c + 16384) 32768)))
      else none

/-- IAC of a slot with SINGLE, from the values of the two sensors that may be used (R116). -/
def Asm.iacOfSlot (a : Asm) (used : Option SampleSet) : Option Int × Bool :=
  match (if a.block = .sensorA then none else a.valueOfSlot used 1), (if a.block = .sensorB then none else a.valueOfSlot used 2) with
  | some x, some y => (some (Int.fdiv (x + y) 2), false)
  | some x, none => (some x, true)
  | none, some y => (some y, true)
  | none, none => (none, false)

/-- The period sums `x` after a slot that uses the set `used` (R115, R127): all of them take the slot, or none does. -/
def Asm.sumsOfSlot (a : Asm) (used : Option SampleSet) (x : Sums) : Sums :=
  match a.valueOfSlot used 0, (a.iacOfSlot used).1, a.valueOfSlot used 3, a.valueOfSlot used 4, a.valueOfSlot used 5 with
  | some vac, some iac, some vbus, some iobc, some ihtr =>
    { ac := x.ac + vac * iac, obc := x.obc + vbus * iobc, htr := x.htr + vbus * ihtr, vacSq := x.vacSq + vac.natAbs ^ 2
      vbus := x.vbus + vbus, iac := x.iac + iac.natAbs, iobc := x.iobc + iobc.natAbs, ihtr := x.ihtr + ihtr.natAbs, n := x.n + 1 }
  | _, _, _, _, _ => x

/-- A positive accumulator fed `fed` eu that carries `wh` whole watt-hours (R136): `a` before and `a'` after. -/
def Acc.fedTo (a a' : Acc) (fed wh : Nat) : Prop :=
  a'.rem + 360000000000 * wh = a.rem + fed ∧ a'.rem < 360000000000 ∧ a'.wh = (a.wh + wh) % 2 ^ 32

/-- The import/export accumulator fed `fed` eu that carries whole watt-hours of import and export (R136). -/
def NetAcc.fedTo (a a' : NetAcc) (fed : Int) (imp exp : Nat) : Prop :=
  a'.rem + 360000000000 * ((imp : Int) - exp) = a.rem + fed
  ∧ a'.imp = (a.imp + imp) % 2 ^ 32 ∧ a'.exp = (a.exp + exp) % 2 ^ 32
  ∧ (imp = 0 ∨ exp = 0) ∧ (NetInRange a → NetInRange a')

/-- The word of the record memory at a bank, slot and word. -/
def recordWordAt (s : State) (bank : Fin 8) (slot word : Nat) : Word := memRead s.brs.mem (cellAddr bank slot word)

/-- The state after a port has taken a complete word: data out carried the pending output, which the word released (R175). -/
def State.afterWord (s : State) (p : Port) : State := modPort p PortState.takeWord s

/-- The state after a write refused with `r` (R176): LAST_REFUSAL and the REFUSAL flag, besides the word itself. -/
def State.afterRefusal (s : State) (p : Port) (r : WriteRefusal) (code : Byte) : State := refuse p r code (s.afterWord p)

end Sys2Proof.Machine
end

