-- ==== Sys2Proof/WellFormed.lean ====
section
/-! DEFINITION. Which commands are well formed: the operand ranges the spec gives that the operand types do not carry already. -/
namespace Sys2Proof

/-- Whether a run of line bits, with `run` 1s before it, never shows six 1s in a row: only a delimiter, an abort or the idle line
do (R46, R47). -/
def noSixOnes : Nat → List Bool → Bool
  | _, [] => true
  | run, b :: bs => if b then decide (run < 5) && noSixOnes (run + 1) bs else noSixOnes 0 bs

/-- Line bits of a frame's content: at least one, and never six 1s in a row. -/
def contentBits (bits : List Bool) : Bool := !bits.isEmpty && noSixOnes 0 bits

/-- A command is well formed. -/
def Instr.wellFormed : Instr → Bool
  | .contentClosed bits => contentBits bits
  | .errorAbort bits => contentBits bits
  | .errorLong bits => contentBits bits
  | .incompleteWord _ bits => decide (bits < 24)
  | .powerOn | .plugDetectRise | .plugDetectFall | .supplyFailWarning | .supplyFailWarningRelease | .converterReadyRise
  | .converterReadyFall | .converterFault | .converterFaultRelease | .senseDieStart | .setTime _ | .barrierFrameArrival _
  | .metrologySlot _ _ | .periodClose _ | .txAccessStart _ | .frameSuccess | .arbitrationLost _ | .lateMismatch _ | .assign
  | .offer | .auth | .time | .stationPauseFrame | .stationResumeFrame | .stationStopFrame | .nonStationFrameDiscard
  | .helloTimerExpiry | .silence1000Ms | .silence10000Ms | .pauseTimerExpiry | .linkLossAgeExpiry | .checkingTimerExpiry
  | .readyTimerExpiry | .stoppingTimerExpiry | .requestTimerExpiry | .meterTimerExpiry | .statusTimerExpiry
  | .allocationTimerExpiry | .spacingTimerExpiry | .settleTimerExpiry | .settleEnd | .averagingEnd _ | .disabledTimerExpiry
  | .stalenessTimerExpiry | .runTimerExpiry | .isolationTimerExpiry | .authorize | .pause | .resume | .stop | .restart | .heatRun
  | .heatStop | .heaterUnlock | .retest | .substStart | .substStop | .timeSet | .pendingClear | .pendingAdd _
  | .pendingPrice _ _ | .tariffCommit | .bandMaskWrite _ _ | .retire _ | .snapshot _ _ | .eventMask _ _ | .events _
  | .cursorSet _ _ | .recordWord _ | .unrecordedImportHigh | .fpUnrecordedClear | .obcAcRating _ | .packTemp _
  | .demandSettingWrite _ _ | .thresholdWrite _ _ | .chStandby _ _ | .iacBlock _ | .calibrationWrite _ _ _
  | .substConfigWrite _ _ | .itemWrite _ _ _ | .delimiterCompletes | .lineGoingIdle => true

end Sys2Proof
end

