-- ==== Sys2Proof/Certificates/Slice0/Obligations.lean ====
section
/-! DEFINITION. The statements about the part, chapter by chapter: what each command does to the state, and the invariants that every
step keeps. -/
open Sys2Proof Sys2Proof.Machine

/-! ### The queue, power-on, restart and the input lines -/

/-- The queue of waiting commands is first in, first out: a step takes the command at the front and runs it on the state with the
queue's rest, and an empty queue leaves the part idle. The queue is the model's own (log entry 1). -/
def Obligations.StepRunsTheFrontCommand : Prop :=
  ∀ s : State,
    (∀ c rest, s.pending = c :: rest → step s = exec c { s with pending := rest })
    ∧ (∀ c, step (s.withFront c) = exec c s)
    ∧ (s.pending = [] → step s = .next s)

/-- Every command completes in every state, within its frame: the spec names no condition that stops the part, and an event that
cannot happen in a state changes nothing (log entry 2). Each command leaves every block outside the list `touched` gives for it as
it was, and none but the step itself touches the queue. -/
def Obligations.EveryCommandCompletesWithinItsFrame : Prop :=
  ∀ (c : Instr) (s : State), ∃ t, exec c s = .next t ∧ t.pending = s.pending ∧ keepsAllBut (touched c) s t

/-- The values after power-on that the chapters' tables give, on a part that has never been used: R1, R28, R29, R51, R52, R69, R70,
R68, R91, R92, R119, R123, R144, R155 and R185. The empty queue of waiting commands, the record memory with nothing listed and no
window open are the model's choice (log entries 1, 11 and 6). -/
def Obligations.ResetHoldsTheSpecsValues : Prop :=
  let r := State.reset
  (r.csc.session = .unplugged ∧ r.csc.holds = HoldSet.empty ∧ r.csc.stopReason = none ∧ r.csc.auth = false
    ∧ r.csc.authRef = 0xFFFFFFFF ∧ r.csc.identity = 0xFFFF ∧ r.csc.offer = none ∧ r.csc.unrecorded = false
    ∧ r.csc.helloCount = 0 ∧ r.csc.pauseT = none ∧ r.csc.silence = none ∧ r.csc.linkAge = none ∧ r.csc.checkingT = none
    ∧ r.csc.readyT = none ∧ r.csc.stoppingT = none ∧ r.csc.requestT = none ∧ r.csc.meterT = none ∧ r.csc.statusT = none
    ∧ r.csc.helloT = none ∧ r.csc.dispatcher = none ∧ r.csc.takenUnplugged = false)
  ∧ (r.alc.timer = none ∧ r.alc.setpoint = 0 ∧ r.alc.target = 0 ∧ r.alc.lastRequest = 0 ∧ r.alc.grant = 0 ∧ r.alc.share = 0
    ∧ r.alc.rating = 320 ∧ r.alc.currentLimit = 0 ∧ r.alc.powerLimit = 0 ∧ r.alc.efficiency = 940)
  ∧ (r.slc.ownAddr = 0x5F ∧ r.slc.group2Mask = 0 ∧ r.slc.group3Mask = 0 ∧ r.slc.queue = [] ∧ r.slc.table = TxTable.empty
    ∧ r.slc.sending = none ∧ r.slc.deferring = false ∧ r.slc.lastError = .none ∧ r.slc.rx.st = .hunt)
  ∧ (r.imn.st = .idle ∧ r.imn.verdict = .unknown ∧ r.imn.cause = .none ∧ r.imn.latch = false ∧ r.imn.faultCount = 0
    ∧ r.imn.retest = none ∧ r.imn.stale = false ∧ r.imn.fresh = false ∧ r.imn.result = none ∧ r.imn.bridge = 500
    ∧ r.imn.warnThreshold = 500 ∧ r.imn.faultThreshold = 100 ∧ r.imn.settleMs = 600 ∧ r.imn.spacingS = 5
    ∧ r.imn.spacingT = some 5000)
  ∧ (r.bhc.st = .off ∧ r.bhc.mode = .none ∧ r.bhc.waits.any = false ∧ r.bhc.demand = 0 ∧ r.bhc.grant = 0 ∧ r.bhc.dutyGrant = 0
    ∧ r.bhc.duty = 0 ∧ r.bhc.contactor = false ∧ r.bhc.lockCause = .none ∧ r.bhc.run = none ∧ r.bhc.packTemp = none
    ∧ r.bhc.overdraw = 0 ∧ r.bhc.target = 50 ∧ r.bhc.gain = 50 ∧ r.bhc.maxPower = 0 ∧ r.bhc.currentLimit = 12500
    ∧ r.bhc.allowance = 1000 ∧ r.bhc.cap = 0 ∧ r.bhc.resistance = 320)
  ∧ (r.ble.store = [] ∧ r.ble.lastSeq = none ∧ r.ble.linkUp = false ∧ r.asm.disagree = false ∧ r.asm.subst = .off
    ∧ r.asm.standby = .fill .active ∧ r.asm.offset = .fill 0 ∧ r.asm.gain = .fill 32768 ∧ r.asm.block = .none)
  ∧ (r.mtr.slot = 1 ∧ r.mtr.sess.owner = none ∧ r.mtr.last = none ∧ r.mtr.creep = 20)
  ∧ (r.ttc.table = [] ∧ r.ttc.pendingTable = [] ∧ r.ttc.prices = .fill 0 ∧ r.ttc.version = 0 ∧ r.ttc.tractionMask = 15
    ∧ r.ttc.heatingMask = 15 ∧ r.ttc.commitMark = false ∧ r.ttc.day = 0 ∧ r.ttc.second = 0 ∧ r.ttc.source = .none)
  ∧ (r.brs.banks = .fill ⟨.free, 2⟩ ∧ r.brs.counter = 0 ∧ r.brs.proceed = false ∧ r.brs.account = 0
    ∧ r.brs.unrecordedImport = 0 ∧ r.brs.unrecordedSessions = 0 ∧ r.brs.mem = [])
  ∧ (r.vp.events = 0 ∧ r.vp.mask = 0 ∧ r.vp.lastRefusal = 0 ∧ r.vp.snapshot = none ∧ r.vp.pendingOut = none
    ∧ r.vp.windowOpen = false ∧ r.vp.ignoring = false)
  ∧ (r.fp.events = 0 ∧ r.fp.mask = 0 ∧ r.fp.lastRefusal = 0 ∧ r.fp.snapshot = none ∧ r.fp.pendingOut = none
    ∧ r.fp.windowOpen = false ∧ r.fp.ignoring = false)
  ∧ r.sel = ⟨0, 0, 0⟩ ∧ r.pending = []

/-- Power-on with the plug out and no bank left open puts every block of the main die at its power-on values, keeps the retained
items of the tables, and leaves the sense die and the input lines alone; with the plug present the session enters LINKING at once,
its first HELLO waiting, and the heater's mode is PLUGGED. The values that the spec does not give, and what power-on leaves alone,
are the model's choice (log entries 10 and 19). A window that stands open stays open with its words ignored; whether one stands open
in which no word is complete is a free value, for every value of which this holds (log entry 6). -/
def Obligations.PowerOnStartsEveryBlock : Prop :=
  ∀ s : State,
    let vpLow := s.vp.windowOpen || Config.vpSelectLow s.vp.starts
    let fpLow := s.fp.windowOpen || Config.fpSelectLow s.fp.starts
    (s.pins.plug = false → (∀ b, (s.brs.banks.get b).st = .free ∨ (s.brs.banks.get b).st = .closed) →
      exec .powerOn s = .next
        { State.reset with
          vp := { State.reset.vp with windowOpen := vpLow, ignoring := vpLow, starts := s.vp.starts + 1 }
          fp := { State.reset.fp with windowOpen := fpLow, ignoring := fpLow, starts := s.fp.starts + 1 }
          pins := s.pins
          sfe := s.sfe
          pending := s.pending
          alc := { State.reset.alc with efficiency := s.alc.efficiency }
          slc := { State.reset.slc with
            group2Value := s.slc.group2Value, group2Mask := s.slc.group2Mask
            group3Value := s.slc.group3Value, group3Mask := s.slc.group3Mask }
          imn := { State.reset.imn with bridge := s.imn.bridge }
          bhc := { State.reset.bhc with resistance := s.bhc.resistance }
          asm := { State.reset.asm with offset := s.asm.offset, gain := s.asm.gain }
          mtr := { State.reset.mtr with
            creep := s.mtr.creep, latches := { State.reset.mtr.latches with creep := s.mtr.creep } }
          ttc := { State.reset.ttc with
            table := s.ttc.table, prices := s.ttc.prices, version := s.ttc.version
            tractionWritten := s.ttc.tractionWritten, heatingWritten := s.ttc.heatingWritten
            tractionMask := s.ttc.tractionWritten, heatingMask := s.ttc.heatingWritten
            pendingTable := s.ttc.table, pendingPrices := s.ttc.prices, price := s.ttc.prices.b0 }
          brs := { State.reset.brs with
            mem := s.brs.mem, banks := s.brs.banks, counter := s.brs.counter, proceed := s.brs.proceed
            account := s.brs.account, unrecordedImport := s.brs.unrecordedImport
            unrecordedSessions := s.brs.unrecordedSessions } })
    ∧ (s.pins.plug = true →
        ∃ t, exec .powerOn s = .next t ∧ t.csc.session = .linking ∧ t.csc.helloCount = 1 ∧ t.csc.helloT = some 5000
          ∧ waitingFrame t.slc .hello = some (partFrame .hello 0x5F (be8 72 ++ be16 320))
          ∧ t.csc.enable = false ∧ t.alc.timer = none ∧ t.bhc.mode = .plugged ∧ t.bhc.contactor = false
          ∧ t.vp = { State.reset.vp with
              windowOpen := vpLow, ignoring := vpLow, starts := s.vp.starts + 1, events := t.vp.events }
          ∧ t.fp = { State.reset.fp with
              windowOpen := fpLow, ignoring := fpLow, starts := s.fp.starts + 1, events := t.fp.events }
          ∧ t.pins = s.pins ∧ t.sfe = s.sfe ∧ t.pending = s.pending)

/-- Power-on examines every bank: a bank found OPEN becomes CLOSED with close reason POWER_LOSS and UNCLEAN set in its summary,
a marked bank loses its mark with UNCLEAN set and its reason kept, RECORD is raised when some bank was so examined, and nothing else
of the record memory changes. -/
def Obligations.PowerOnClosesBanksLeftOpen : Prop :=
  ∀ s : State, memWf s.brs.mem = true →
    ∃ t, exec .powerOn s = .next t
      ∧ (∀ b, (t.brs.banks.get b).next = (s.brs.banks.get b).next
          ∧ (t.brs.banks.get b).st = (if (s.brs.banks.get b).st = .free then .free else .closed))
      ∧ (∀ b slot word, slot < 64 → word < 16 → recordWordAt t b slot word =
          if slot = 0 ∧ word = 9 ∧ (s.brs.banks.get b).st = .openBank then
            (recordWordAt s b slot word &&& 0xEFF0) ||| 0x100D
          else if slot = 0 ∧ word = 9 ∧ (s.brs.banks.get b).st = .settling then recordWordAt s b slot word ||| 0x1000
          else recordWordAt s b slot word)
      ∧ (t.fp.events.getLsbD 0 = true ↔ ∃ b, (s.brs.banks.get b).st = .openBank ∨ (s.brs.banks.get b).st = .settling)
      ∧ t.brs.interval = Interval.empty ∧ t.ttc.day = 0 ∧ t.ttc.second = 0

/-- A vehicle restart closes an open session with VEHICLE_RESTART and its STOP frame, returns the vehicle side of the part to its
restart values, keeps the verdict, the meter, the tariff and, unless a SUPPLY_LOSS close is due, the Fleet Port, keeps of the record
store what a close and its records do not write, and takes the plug level again. That the parts outside the list stay as they were,
that a frame in handling is dropped, and that SUBSTITUTION follows the substitution that goes on, is the model's reading (log entries
19, 22, 31 and 35). -/
def Obligations.RestartReturnsTheVehicleSide : Prop :=
  ∀ s : State, s.vp.takesWrites → (∀ r, s.imn.retest = some r → r.good < 2) →
    ∃ t, exec .restart s = .next t
      ∧ t.csc.session = (if s.pins.plug then .linking else .unplugged)
      ∧ (s.pins.plug = false → t.csc = Csc.reset)
      ∧ t.csc.enable = false ∧ t.csc.stopReason = none ∧ t.csc.auth = false ∧ t.csc.offer = none ∧ t.csc.holds = HoldSet.empty
      ∧ t.alc = { Alc.reset s.alc.efficiency with vrms := s.alc.vrms, vbus := s.alc.vbus }
      ∧ t.slc.queue = [] ∧ t.slc.sending = none ∧ t.slc.idle = 0 ∧ t.slc.deferring = false ∧ t.slc.lastError = .none
      ∧ t.slc.rx = Rx.reset ∧ t.slc.ownAddr = 0x5F
      ∧ (s.csc.session.isOpen = true ∨ s.csc.session = .checking →
          t.slc.table.stop.frame =
            some (partFrame .stop s.slc.ownAddr (be8 (s.csc.stopReason.getD .vehicleRestart).code)))
      ∧ (s.csc.session.isOpen = false → s.csc.session ≠ .checking → t.slc.table.stop.frame = none)
      ∧ t.slc.table.request = TxEntry.empty ∧ t.slc.table.meter = TxEntry.empty ∧ t.slc.table.status = TxEntry.empty
      ∧ (s.pins.plug = false → t.slc.table.hello = TxEntry.empty)
      ∧ t.imn.st = (if s.imn.st = .disabled then .disabled else .idle)
      ∧ t.imn.verdict = s.imn.verdict ∧ t.imn.cause = s.imn.cause ∧ t.imn.latch = s.imn.latch
      ∧ t.imn.faultCount = s.imn.faultCount ∧ t.imn.stale = s.imn.stale ∧ t.imn.fresh = s.imn.fresh ∧ t.imn.retest = none
      ∧ t.imn.anyPending = false ∧ t.imn.warnThreshold = 500 ∧ t.imn.faultThreshold = 100 ∧ t.imn.bridge = s.imn.bridge
      ∧ t.bhc.mode = (if s.pins.plug then .plugged else .none)
      ∧ (if s.imn.verdict = .fault ∧ s.imn.cause = .heater then t.bhc.st = .lockedOut ∧ t.bhc.lockCause = .heater
         else t.bhc.st = .off ∧ t.bhc.lockCause = .none)
      ∧ t.bhc.contactor = false ∧ t.bhc.duty = 0 ∧ t.bhc.run = none ∧ t.bhc.packTemp = none
      ∧ t.bhc.resistance = s.bhc.resistance ∧ t.bhc.vbus = s.bhc.vbus ∧ t.bhc.waits.substitution = s.asm.subst.isActive
      ∧ t.asm.standby = .fill .active ∧ t.asm.block = .none ∧ t.asm.subst = s.asm.subst ∧ t.asm.offset = s.asm.offset
      ∧ t.asm.gain = s.asm.gain
      ∧ t.vp.mask = 0 ∧ t.vp.lastRefusal = 0 ∧ t.vp.snapshot = none ∧ t.vp.pendingOut = none
      ∧ t.vp.windowOpen = true ∧ t.vp.ignoring = false
      ∧ t.sel = { s.sel with meter := 0 }
      ∧ (s.csc.stopReason ≠ some .supplyLoss → t.fp = s.fp)
      ∧ (openBank s = none → t.brs = s.brs)
      ∧ (s.csc.session.isOpen = true → s.csc.stopReason ≠ some .supplyLoss → ∀ b, openBank s = some b →
          (t.brs.banks.get b).st = .settling)
      ∧ t.brs.vpCursor = s.brs.vpCursor ∧ t.brs.fpCursor = s.brs.fpCursor ∧ t.brs.copy = s.brs.copy
      ∧ t.brs.counter = s.brs.counter ∧ t.brs.proceed = s.brs.proceed ∧ t.brs.account = s.brs.account
      ∧ t.brs.unrecordedImport = s.brs.unrecordedImport ∧ t.brs.unrecordedSessions = s.brs.unrecordedSessions
      ∧ t.brs.retireBank = s.brs.retireBank
      ∧ keepsAllBut [.csc, .alc, .slc, .imn, .bhc, .asm, .brs, .vp, .fp, .sel] s t

/-- A rise of plug detect in UNPLUGGED enters LINKING: match slot 0 returns to outlet 31, the first HELLO waits with the rating in
force, the verdict is no longer fresh, an active substitution is cancelled, and the heater's mode becomes PLUGGED unless a parked
run goes on. A rise on a line that is high already changes nothing (log entry 2). -/
def Obligations.PlugRiseEntersLinking : Prop :=
  ∀ s : State,
    (s.pins.plug = true → exec .plugDetectRise s = .next s)
    ∧ (s.pins.plug = false → s.csc.session = .unplugged →
        ∃ t, exec .plugDetectRise s = .next t
          ∧ t.pins = { s.pins with plug := true }
          ∧ t.csc = { s.csc with session := .linking, helloCount := 1, absentRaised := false, helloT := some 5000 }
          ∧ t.slc.ownAddr = 0x5F
          ∧ waitingFrame t.slc .hello = some (partFrame .hello 0x5F (be8 72 ++ be16 s.alc.rating))
          ∧ t.imn.fresh = false
          ∧ t.asm = (if s.asm.subst = .off then s.asm else { s.asm with subst := .ending, cancelled := true })
          ∧ t.vp.events.getLsbD 0 = true
          ∧ (s.bhc.mode ≠ .parked → t.bhc.mode = .plugged)
          ∧ (s.bhc.quiet = false →
              (s.bhc.mode = .parked → t.bhc.mode = .parked ∧ t.bhc.run = s.bhc.run)
              ∧ keepsAllBut [.pins, .csc, .slc, .imn, .bhc, .asm, .vp] s t))

/-- A fall of plug detect in any state but UNPLUGGED ends the session attempt: the converter is cut, an open session is closed with
UNPLUGGED unless a reason stands already, every frame that waits and every timer goes, and the state is UNPLUGGED; the heater leaves
PLUGGED, and a session that leaves TRANSFER has the battery share at 0. In UNPLUGGED, and on a line that is low already, the session controller changes nothing. That a line at its level changes
nothing, and that UNPLUGGED is recorded in every state, is the model's reading (log entries 2 and 16). -/
def Obligations.PlugFallEndsTheAttempt : Prop :=
  ∀ s : State,
    (s.pins.plug = false → exec .plugDetectFall s = .next s)
    ∧ (s.pins.plug = true → s.csc.session = .unplugged →
        ∃ t, exec .plugDetectFall s = .next t ∧ t.csc = s.csc ∧ t.slc = s.slc ∧ t.pins = { s.pins with plug := false })
    ∧ (s.pins.plug = true → s.csc.session ≠ .unplugged →
        ∃ t, exec .plugDetectFall s = .next t
          ∧ t.pins = { s.pins with plug := false }
          ∧ t.csc = { Csc.reset with
              session := .unplugged
              stopReason := some (s.csc.stopReason.getD .unplugged)
              unrecorded := s.csc.unrecorded
              helloCount := s.csc.helloCount
              absentRaised := s.csc.absentRaised
              dispatcher := s.csc.dispatcher
              takenUnplugged := s.csc.takenUnplugged
              lastField := s.csc.lastField }
          ∧ t.alc.setpoint = 0 ∧ t.alc.target = 0 ∧ (s.csc.session = .transfer → t.alc.share = 0)
          ∧ (s.csc.session.isOpen = true →
              t.alc.timer = none
              ∧ ∀ b, openBank s = some b → s.csc.stopReason ≠ some .supplyLoss → (t.brs.banks.get b).st = .settling)
          ∧ t.slc.table = TxTable.empty
          ∧ t.imn.checkPending = false
          ∧ t.bhc.mode ≠ .plugged)

/-- A falling supply-fail warning closes an open session at once with its converter cut and a STOP frame that carries the recorded
reason, closes the wait of CHECKING, leaves the session alone otherwise, settles every marked bank, and turns the heater off: one in
its unlock test is locked out with cause HEATER, in ISOLATED with the isolation timer running on, and one that is ISOLATED without
the test, locked out, SPENT or off stays as it is. A session that leaves TRANSFER has the battery share at 0. The two premises on the
averaging states leave out a disturbed completion, which releases an isolated heater first. -/
def Obligations.SupplyFailClosesAtOnce : Prop :=
  ∀ s : State, s.pins.supplyFail = false →
    ∃ t, exec .supplyFailWarning s = .next t
      ∧ t.pins = { s.pins with supplyFail := true }
      ∧ (s.csc.session.isOpen = true →
          t.csc.session = closedSession s ∧ t.csc.enable = false ∧ t.csc.auth = false ∧ t.csc.authRef = 0xFFFFFFFF
          ∧ t.csc.stopReason = some (s.csc.stopReason.getD .supplyLoss)
          ∧ t.alc.timer = none ∧ t.alc.setpoint = 0 ∧ t.alc.target = 0
          ∧ waitingFrame t.slc .stop =
              some (partFrame .stop s.slc.ownAddr (be8 (s.csc.stopReason.getD .supplyLoss).code))
          ∧ (∀ b, openBank s = some b → (t.brs.banks.get b).st = .closed))
      ∧ (s.csc.session = .checking → s.csc.stopReason = none →
          t.csc.session = closedSession s ∧ t.csc.stopReason = some .supplyLoss ∧ t.csc.checkingT = none
          ∧ t.imn.checkPending = false ∧ waitingFrame t.slc .stop = some (partFrame .stop s.slc.ownAddr (be8 11)))
      ∧ (s.csc.session.isOpen = false → s.csc.session ≠ .checking → t.csc = s.csc)
      ∧ (∀ b, (t.brs.banks.get b).st ≠ .settling)
      ∧ t.bhc.run = none
      ∧ (s.bhc.st = .wait ∨ s.bhc.st = .heating ∨ s.bhc.st = .quiet → s.bhc.waits.unlockTest = false →
          t.bhc.st = .off ∧ t.bhc.contactor = false ∧ t.bhc.duty = 0)
      ∧ (s.bhc.st = .wait → s.bhc.waits.unlockTest = true → t.bhc.st = .lockedOut ∧ t.bhc.lockCause = .heater)
      ∧ (s.bhc.st = .isolated → s.bhc.waits.unlockTest = true → s.bhc.spentPending = false ∨ s.imn.st.isAveraging = false →
          t.bhc.st = .lockedOut ∧ t.bhc.lockCause = .heater ∧ t.bhc.waits.unlockTest = false ∧ t.bhc.contactor = false
          ∧ (s.imn.st.isAveraging = false → t.bhc.isolationT = s.bhc.isolationT))
      ∧ (s.bhc.st = .isolated → s.bhc.waits.unlockTest = false → s.imn.st.isAveraging = false →
          t.bhc.st = .isolated ∧ t.bhc.isolationT = s.bhc.isolationT)
      ∧ (s.bhc.st = .lockedOut ∨ s.bhc.st = .spent ∨ s.bhc.st = .off → s.bhc.waits.unlockTest = false →
          t.bhc.st = s.bhc.st ∧ t.bhc.lockCause = s.bhc.lockCause)
      ∧ (s.csc.session = .transfer → t.alc.share = 0)

/-- The converter lines move the session as the table of the converter lines gives: a rise of ready ends the wait of STARTING, a
fall of ready or a fault stops a live session with its converter cut, a fault cuts the converter in STOPPING and keeps the reason,
and elsewhere only the level changes. A session that leaves TRANSFER has the battery share at 0 at once, and the heater grant stays.
That the request falls to 0 with the cut is the model's reading (log entry 33). -/
def Obligations.ConverterLinesMoveTheSession : Prop :=
  ∀ s : State,
    (s.pins.ready = false → s.csc.session = .starting →
      ∃ t, exec .converterReadyRise s = .next t ∧ t.pins = { s.pins with ready := true }
        ∧ t.csc = { s.csc with
            session := if s.csc.holds = HoldSet.empty then .transfer else .hold
            readyT := none
            meterT := some 60000 }
        ∧ t.slc = s.slc ∧ t.alc.setpoint = s.alc.setpoint)
    ∧ (s.pins.ready = false → s.csc.session ≠ .starting →
      exec .converterReadyRise s = .next { s with pins := { s.pins with ready := true } })
    ∧ (s.pins.ready = true → s.csc.session = .transfer ∨ s.csc.session = .hold →
      ∃ t, exec .converterReadyFall s = .next t ∧ t.pins = { s.pins with ready := false }
        ∧ t.csc = { s.csc with
            session := .stopping
            stopReason := some (s.csc.stopReason.getD .converterFault)
            enable := false
            stoppingT := some 1000 }
        ∧ t.alc.setpoint = 0 ∧ t.alc.target = 0 ∧ t.alc.lastRequest = 0
        ∧ t.alc.share = (if s.csc.session = .transfer then 0 else s.alc.share) ∧ t.alc.grant = s.alc.grant
        ∧ (s.csc.stopReason = none → waitingFrame t.slc .stop = some (partFrame .stop s.slc.ownAddr (be8 7))))
    ∧ (s.pins.ready = true → s.csc.session ≠ .transfer → s.csc.session ≠ .hold →
      exec .converterReadyFall s = .next { s with pins := { s.pins with ready := false } })
    ∧ (s.pins.fault = false → s.csc.session.isLive = true →
      ∃ t, exec .converterFault s = .next t ∧ t.pins = { s.pins with fault := true }
        ∧ t.csc = { s.csc with
            session := .stopping
            stopReason := some (s.csc.stopReason.getD .converterFault)
            enable := false
            stoppingT := some 1000 }
        ∧ t.alc.setpoint = 0 ∧ t.alc.target = 0 ∧ t.alc.lastRequest = 0
        ∧ t.alc.share = (if s.csc.session = .transfer then 0 else s.alc.share) ∧ t.alc.grant = s.alc.grant
        ∧ (s.csc.stopReason = none → waitingFrame t.slc .stop = some (partFrame .stop s.slc.ownAddr (be8 7))))
    ∧ (s.pins.fault = false → s.csc.session = .stopping →
      ∃ t, exec .converterFault s = .next t ∧ t.pins = { s.pins with fault := true }
        ∧ t.csc = { s.csc with enable := false } ∧ t.alc.setpoint = 0 ∧ t.alc.target = 0 ∧ t.alc.lastRequest = 0
        ∧ t.slc = s.slc)
    ∧ (s.pins.fault = false → s.csc.session.isOpen = false →
      exec .converterFault s = .next { s with pins := { s.pins with fault := true } })
    ∧ (s.pins.fault = true → s.csc.session ≠ .ready → s.csc.session ≠ .ended →
      exec .converterFaultRelease s = .next { s with pins := { s.pins with fault := false } })

/-- In READY and ENDED the session enters CHECKING as soon as the last of the five conditions is met, by an AUTHORIZE or by the
release of the converter fault or of the supply-fail warning: the stop reason becomes none, a fresh cycle is asked of the Insulation
Monitor, and the CHECKING timer runs for 30,000 ms. With a condition missing the state stays. -/
def Obligations.CheckingIsEnteredWhenTheConditionsHold : Prop :=
  ∀ s : State, s.csc.session = .ready ∨ s.csc.session = .ended →
    (s.vp.takesWrites → offerValid s = true → s.asm.subst = .off → s.pins.fault = false → s.pins.supplyFail = false →
      ∃ t, exec .authorize s = .next t
        ∧ t.csc = { s.csc with
            session := .checking, auth := true, stopReason := none, unrecorded := false, checkingT := some 30000 }
        ∧ t.imn.checkPending = true
        ∧ (s.imn.st = .idle → s.imn.checkPending = false → t.imn.st = .settleA ∧ t.imn.servesCheck = true)
        ∧ t.vp.events.getLsbD 0 = true
        ∧ keepsAllBut [.csc, .imn, .vp] s t)
    ∧ (s.vp.takesWrites → ¬ (offerValid s = true ∧ s.asm.subst = .off ∧ s.pins.fault = false ∧ s.pins.supplyFail = false) →
      exec .authorize s = .next { s.afterWord .vp with csc := { s.csc with auth := true } })
    ∧ (s.pins.fault = true → s.csc.auth = true → offerValid s = true → s.asm.subst = .off → s.pins.supplyFail = false →
      ∃ t, exec .converterFaultRelease s = .next t ∧ t.pins = { s.pins with fault := false }
        ∧ t.csc = { s.csc with session := .checking, stopReason := none, unrecorded := false, checkingT := some 30000 }
        ∧ t.imn.checkPending = true ∧ keepsAllBut [.pins, .csc, .imn, .vp] s t)
    ∧ (s.pins.fault = true → ¬ (s.csc.auth = true ∧ offerValid s = true ∧ s.asm.subst = .off ∧ s.pins.supplyFail = false) →
      exec .converterFaultRelease s = .next { s with pins := { s.pins with fault := false } })
    ∧ (s.pins.supplyFail = true → s.csc.auth = true → offerValid s = true → s.asm.subst = .off → s.pins.fault = false →
      ∃ t, exec .supplyFailWarningRelease s = .next t ∧ t.pins = { s.pins with supplyFail := false }
        ∧ t.csc = { s.csc with session := .checking, stopReason := none, unrecorded := false, checkingT := some 30000 })
    ∧ (s.pins.supplyFail = true → ¬ (s.csc.auth = true ∧ offerValid s = true ∧ s.asm.subst = .off ∧ s.pins.fault = false) →
      ∃ t, exec .supplyFailWarningRelease s = .next t ∧ t.pins = { s.pins with supplyFail := false } ∧ t.csc = s.csc)

/-! ### Station frames and the session's timers -/

/-- The handling of an ASSIGN: in LINKING it enters READY with the outlet's address, the identity, the silence timer, a STATUS frame
and the hold set formed from present conditions; in READY and ENDED it only readdresses; elsewhere, with outlet 31, and where the
dispatcher took it in UNPLUGGED, it has no effect but to free the dispatcher. The STATUS frame is built before the hold set is formed (log entry 13). -/
def Obligations.AssignFollowsItsRule : Prop :=
  ∀ (s : State) (f : RxFrame), s.csc.dispatcher = some f → roleOf f.src = 1 →
    ∀ (outlet : Nat) (identity : Word), f.msg = .assign outlet identity →
    (31 ≤ outlet ∨ s.csc.takenUnplugged = true → exec .assign s = .next s.handled)
    ∧ (outlet < 31 → s.csc.takenUnplugged = false → s.csc.session = .linking →
        ∃ t, exec .assign s = .next t
          ∧ t.csc = { s.csc with
              session := .ready
              identity := identity
              helloT := none
              silence := some 0
              statusT := some 5000
              holds := { HoldSet.empty with
                offerZero := !offerValid s
                linkLoss := !s.ble.linkUp
                bandWait := !s.ttc.tractionMask.getLsbD s.ttc.band.val }
              linkAge := if s.ble.linkUp then none else some 0
              dispatcher := s.slc.queue.head? }
          ∧ t.slc.ownAddr = BitVec.ofNat 8 (64 + outlet) ∧ t.slc.queue = s.slc.queue.tail
          ∧ waitingFrame t.slc .status =
              some (partFrame .status (BitVec.ofNat 8 (64 + outlet)) (statusPayload s))
          ∧ t.slc.table.hello = TxEntry.empty
          ∧ t.vp.events.getLsbD 0 = true
          ∧ keepsAllBut [.csc, .slc, .vp] s t)
    ∧ (outlet < 31 → s.csc.takenUnplugged = false → s.csc.session = .ready ∨ s.csc.session = .ended →
        exec .assign s = .next
          { s.handled with
            csc := { s.handled.csc with identity := identity }
            slc := { s.handled.slc with ownAddr := BitVec.ofNat 8 (64 + outlet) } })
    ∧ (s.csc.session ≠ .linking → s.csc.session ≠ .ready → s.csc.session ≠ .ended → exec .assign s = .next s.handled)

/-- The handling of an OFFER: outside UNPLUGGED the offer in force is replaced, OFFER_ZERO follows its validity, a REQUEST that is
pending is rescheduled under the new bound, and in READY and ENDED the entry to CHECKING follows when its conditions hold. When a
REQUEST is bounded again, and that it carries the state code of before the change of the hold set, is the model's reading (log
entries 15 and 14). An OFFER that is handled in UNPLUGGED, or that the dispatcher took there, is discarded. -/
def Obligations.OfferIsStoredAndActedOn : Prop :=
  ∀ (s : State) (f : RxFrame), s.csc.dispatcher = some f → roleOf f.src = 1 →
    ∀ (seq max min : Nat), f.msg = .offer seq max min →
    (s.csc.session = .unplugged ∨ s.csc.takenUnplugged = true → exec .offer s = .next s.handled)
    ∧ (s.csc.session ≠ .unplugged → s.csc.takenUnplugged = false →
        ∃ t, exec .offer s = .next t
          ∧ t.csc.offer = some ⟨max, min, seq⟩
          ∧ t.csc.dispatcher = s.slc.queue.head? ∧ t.slc.queue = s.slc.queue.tail
          ∧ (s.csc.session.keepsHolds = true →
              t.csc.holds = { s.csc.holds with offerZero := !(decide (0 < max) && decide (min ≤ max)) })
          ∧ (s.csc.session.keepsHolds = false → t.csc.holds = s.csc.holds)
          ∧ (s.csc.session = .ready ∨ s.csc.session = .ended →
              (0 < max ∧ min ≤ max ∧ s.csc.auth = true ∧ s.asm.subst = .off ∧ s.pins.fault = false ∧ s.pins.supplyFail = false →
                t.csc.session = .checking ∧ t.csc.stopReason = none ∧ t.csc.unrecorded = false ∧ t.csc.checkingT = some 30000
                  ∧ t.imn.checkPending = true)
              ∧ (¬ (0 < max ∧ min ≤ max ∧ s.csc.auth = true ∧ s.asm.subst = .off ∧ s.pins.fault = false
                  ∧ s.pins.supplyFail = false) → t.csc.session = s.csc.session))
          ∧ (s.csc.session = .transfer → s.csc.holds = HoldSet.empty → ¬ (0 < max ∧ min ≤ max) → t.csc.session = .hold)
          ∧ (s.csc.session = .hold → s.csc.holds = { HoldSet.empty with offerZero := true } → 0 < max → min ≤ max →
              t.csc.session = .transfer)
          ∧ (s.slc.table.request.frame.isSome = true → s.csc.offer ≠ some ⟨max, min, seq⟩ →
              waitingFrame t.slc .request = some (partFrame .request s.slc.ownAddr
                (requestPayload (Nat.min (Nat.min s.alc.lastRequest max) s.alc.rating) s.csc.session seq))
              ∧ t.csc.lastField = Nat.min (Nat.min s.alc.lastRequest max) s.alc.rating ∧ t.csc.requestT = some 1000))

/-- The handling of AUTH, TIME, PAUSE, RESUME and STOP from a station, by session state, and of a frame from another talker, or one
that the dispatcher took in UNPLUGGED, which is discarded without effect. -/
def Obligations.StationFramesFollowTheirTable : Prop :=
  ∀ (s : State) (f : RxFrame), s.csc.dispatcher = some f →
    (roleOf f.src ≠ 1 → exec .nonStationFrameDiscard s = .next s.handled)
    ∧ (roleOf f.src = 1 → s.csc.takenUnplugged = true →
      (∀ ref, f.msg = .auth ref → exec .auth s = .next s.handled)
      ∧ (∀ day second, f.msg = .time day second → exec .time s = .next s.handled)
      ∧ (∀ seconds, f.msg = .pause seconds → exec .stationPauseFrame s = .next s.handled)
      ∧ (f.msg = .resume → exec .stationResumeFrame s = .next s.handled)
      ∧ (∀ reason, f.msg = .stop reason → exec .stationStopFrame s = .next s.handled))
    ∧ (roleOf f.src = 1 → s.csc.takenUnplugged = false →
      (∀ ref, f.msg = .auth ref →
        (s.csc.session = .unplugged → exec .auth s = .next s.handled)
        ∧ (s.csc.session ≠ .unplugged → s.csc.session.isOpen = false ∨ openBank s = none →
            exec .auth s = .next { s.handled with csc := { s.handled.csc with authRef := ref } })
        ∧ (s.csc.session.isOpen = true → openBank s ≠ none →
            exec .auth s = .next
              { s.handled with
                csc := { s.handled.csc with authRef := ref }
                brs := { s.brs with work := { s.brs.work with ref := ref } } }))
      ∧ (∀ day second, f.msg = .time day second →
        (s.csc.session = .unplugged ∨ s.ttc.source = .fleet → exec .time s = .next s.handled)
        ∧ (s.csc.session ≠ .unplugged → s.ttc.source ≠ .fleet →
            ∃ t, exec .time s = .next t ∧ t.ttc = { s.ttc with day := day, second := second, source := .station }
              ∧ t.csc = s.handled.csc ∧ t.slc = s.handled.slc ∧ keepsAllBut [.csc, .slc, .ttc, .brs] s t
              ∧ (openBank s = none → t.brs = s.brs)))
      ∧ (∀ seconds, f.msg = .pause seconds →
        (s.csc.session = .unplugged ∨ s.csc.session = .linking → exec .stationPauseFrame s = .next s.handled)
        ∧ (s.csc.session.keepsHolds = true →
            ∃ t, exec .stationPauseFrame s = .next t
              ∧ t.csc.holds = { s.csc.holds with stationPause := true }
              ∧ t.csc.pauseT = (if seconds = 0 then none else some (seconds * 1000))
              ∧ t.csc.session = (if s.csc.session = .transfer ∧ s.csc.holds.stationPause = false then .hold else s.csc.session)
              ∧ t.csc.dispatcher = s.slc.queue.head?))
      ∧ (f.msg = .resume →
        (s.csc.session.keepsHolds = false ∨ s.csc.holds.stationPause = false → exec .stationResumeFrame s = .next s.handled)
        ∧ (s.csc.session.keepsHolds = true → s.csc.holds.stationPause = true →
            ∃ t, exec .stationResumeFrame s = .next t
              ∧ t.csc.holds = { s.csc.holds with stationPause := false } ∧ t.csc.pauseT = none
              ∧ (s.csc.session = .hold →
                  t.csc.session = (if s.csc.holds = { HoldSet.empty with stationPause := true } then .transfer else .hold))
              ∧ t.csc.dispatcher = s.slc.queue.head?))
      ∧ (∀ reason, f.msg = .stop reason →
        (s.csc.session = .unplugged ∨ s.csc.session = .linking ∨ s.csc.session = .ready ∨ s.csc.session = .ended →
            exec .stationStopFrame s = .next s.handled)
        ∧ (s.csc.session = .checking → s.csc.stopReason = none →
            ∃ t, exec .stationStopFrame s = .next t ∧ t.csc.session = closedSession s ∧ t.csc.stopReason = some .stationStop
              ∧ t.imn.checkPending = false ∧ t.csc.checkingT = none
              ∧ waitingFrame t.slc .stop = some (partFrame .stop s.slc.ownAddr (be8 2)))
        ∧ (s.csc.session.isLive = true →
            ∃ t, exec .stationStopFrame s = .next t ∧ t.csc.session = .stopping ∧ t.csc.stoppingT = some 1000
              ∧ t.csc.stopReason = some (s.csc.stopReason.getD .stationStop) ∧ t.csc.enable = s.csc.enable
              ∧ (s.csc.stopReason = none → waitingFrame t.slc .stop = some (partFrame .stop s.slc.ownAddr (be8 2))))
        ∧ (s.csc.session = .stopping →
            ∃ t, exec .stationStopFrame s = .next t ∧ t.csc = s.handled.csc ∧ t.slc = s.handled.slc)
        ∧ (s.csc.session.isOpen = true → memWf s.brs.mem = true → ∀ b, openBank s = some b → (s.brs.banks.get b).next < 64 →
            ∃ t, exec .stationStopFrame s = .next t
              ∧ recordWordAt t b (s.brs.banks.get b).next 0 = natWord (8192 + 256 * secondHigh s.ttc.second + 9)
              ∧ recordWordAt t b (s.brs.banks.get b).next 3 = reason.setWidth 16
              ∧ (t.brs.banks.get b).next = (s.brs.banks.get b).next + 1)))

/-- The silence timer acts at 1,000 ms and at 10,000 ms: STATION_SILENT is added; then READY, CHECKING and ENDED return to LINKING,
a live session stops with STATION_LOST, and STOPPING goes on. The marks the timer holds, that a mark out of turn changes
nothing, and that the return to LINKING stops the link-loss age, are the model's choice (log entries 2, 3 and 25). -/
def Obligations.SilenceActsAtItsMarks : Prop :=
  ∀ s : State,
    (s.csc.silence = some 0 → s.csc.session.keepsHolds = true →
      ∃ t, exec .silence1000Ms s = .next t
        ∧ t.csc.silence = some 1000 ∧ t.csc.holds = { s.csc.holds with stationSilent := true }
        ∧ t.csc.session = (if s.csc.session = .transfer ∧ s.csc.holds.stationSilent = false then .hold else s.csc.session))
    ∧ (s.csc.silence ≠ some 0 → exec .silence1000Ms s = .next s)
    ∧ (s.csc.silence = some 1000 → s.csc.session = .ready ∨ s.csc.session = .checking ∨ s.csc.session = .ended →
      ∃ t, exec .silence10000Ms s = .next t
        ∧ t.csc = { s.csc with
            session := .linking, holds := HoldSet.empty, auth := false, authRef := 0xFFFFFFFF, identity := 0xFFFF, offer := none
            checkingT := none, statusT := none, pauseT := none, silence := none, linkAge := none
            helloCount := 1, absentRaised := false, helloT := some 5000 }
        ∧ t.imn.checkPending = false
        ∧ waitingFrame t.slc .status = none ∧ waitingFrame t.slc .request = none
        ∧ waitingFrame t.slc .hello = some (partFrame .hello 0x5F (be8 72 ++ be16 s.alc.rating))
        ∧ t.slc.ownAddr = 0x5F ∧ keepsAllBut [.csc, .slc, .imn, .vp] s t)
    ∧ (s.csc.silence = some 1000 → s.csc.session.isLive = true →
      ∃ t, exec .silence10000Ms s = .next t
        ∧ t.csc = { s.csc with
            session := .stopping, silence := some 10000, stoppingT := some 1000
            stopReason := some (s.csc.stopReason.getD .stationLost) }
        ∧ (s.csc.stopReason = none → waitingFrame t.slc .stop = some (partFrame .stop s.slc.ownAddr (be8 3))))
    ∧ (s.csc.silence = some 1000 → s.csc.session = .stopping →
      exec .silence10000Ms s = .next { s with csc := { s.csc with silence := some 10000 } })
    ∧ (s.csc.silence ≠ some 1000 → exec .silence10000Ms s = .next s)

/-- The pause timer, the link-loss age and the CHECKING, ready and STOPPING timers act at their expiry as the state calls for. STOPPING
also ends at the first period close whose whole period lay in STOPPING and whose mean converter current is below 500 counts (1 A). The marks of
the link-loss age are the model's choice (log entry 3), and the order of the hand-overs one of the two the model keeps (log entry
4). -/
def Obligations.HoldAndWaitTimersAct : Prop :=
  ∀ s : State,
    (s.csc.pauseT.isSome = true → s.csc.session.keepsHolds = true →
      ∃ t, exec .pauseTimerExpiry s = .next t ∧ t.csc.pauseT = none
        ∧ t.csc.holds = { s.csc.holds with stationPause := false }
        ∧ (s.csc.session = .hold → s.csc.holds.stationPause = true →
            t.csc.session = (if s.csc.holds = { HoldSet.empty with stationPause := true } then .transfer else .hold))
        ∧ (s.csc.session ≠ .hold → s.csc.session ≠ .transfer → t.csc.session = s.csc.session))
    ∧ (s.csc.linkAge = some 0 → s.csc.session.isLive = true →
      ∃ t, exec .linkLossAgeExpiry s = .next t
        ∧ t.csc = { s.csc with
            session := .stopping, linkAge := some 60000, stoppingT := some 1000
            stopReason := some (s.csc.stopReason.getD .linkLost) }
        ∧ (s.csc.stopReason = none → waitingFrame t.slc .stop = some (partFrame .stop s.slc.ownAddr (be8 4))))
    ∧ (s.csc.linkAge = some 0 → s.csc.session.isLive = false →
      exec .linkLossAgeExpiry s = .next { s with csc := { s.csc with linkAge := some 60000 } })
    ∧ (s.csc.checkingT.isSome = true → s.csc.session = .checking → s.csc.stopReason = none →
      ∃ t, exec .checkingTimerExpiry s = .next t ∧ t.csc.session = closedSession s
        ∧ t.csc.stopReason = some .insulationUnverified ∧ t.csc.checkingT = none ∧ t.csc.auth = false
        ∧ t.imn.checkPending = false ∧ waitingFrame t.slc .stop = some (partFrame .stop s.slc.ownAddr (be8 6)))
    ∧ (s.csc.readyT.isSome = true → s.csc.session = .starting →
      ∃ t, exec .readyTimerExpiry s = .next t
        ∧ t.csc = { s.csc with
            session := .stopping, readyT := none, stoppingT := some 1000
            stopReason := some (s.csc.stopReason.getD .converterTimeout) }
        ∧ (s.csc.stopReason = none → waitingFrame t.slc .stop = some (partFrame .stop s.slc.ownAddr (be8 8))))
    ∧ (s.csc.stoppingT.isSome = true → s.csc.session = .stopping →
      ∃ t, exec .stoppingTimerExpiry s = .next t ∧ t.csc.session = closedSession s
        ∧ t.csc.stopReason = s.csc.stopReason ∧ t.csc.enable = false ∧ t.csc.auth = false ∧ t.csc.authRef = 0xFFFFFFFF
        ∧ t.csc.readyT = none ∧ t.csc.stoppingT = none ∧ t.csc.requestT = none ∧ t.csc.meterT = none
        ∧ t.csc.holds.noVoltage = false
        ∧ t.alc.timer = none ∧ (s.alc.timer.isSome = true → t.alc.setpoint = 0 ∧ t.alc.lastRequest = 0 ∧ t.alc.target = 0)
        ∧ (∀ b, openBank s = some b → s.csc.stopReason ≠ some .supplyLoss →
            (t.brs.banks.get b).st = .settling
            ∧ (2 ≤ (s.brs.banks.get b).next →
                waitingFrame t.slc .meter = some (partFrame .meter s.slc.ownAddr
                  (be16 (bankSession s b) ++ be32 (sessionSetFor s (bankSession s b)).net.imp
                    ++ be32 (cents (sessionSetFor s (bankSession s b)).tractionTicks
                      + cents (sessionSetFor s (bankSession s b)).heatingTicks))))))
    ∧ (∀ order : HandOver, s.mtr.slot = 4001 → s.csc.session = .stopping →
      let ended : Prop := s.mtr.latches.stopping = true ∧ 0 < s.mtr.sums.n ∧ s.mtr.sums.iobc / s.mtr.sums.n < 500
      ∃ t, exec (.periodClose order) s = .next t
        ∧ (ended → t.csc.session = closedSession s ∧ t.csc.stopReason = s.csc.stopReason ∧ t.csc.enable = false
            ∧ t.csc.auth = false ∧ t.csc.stoppingT = none ∧ t.csc.requestT = none ∧ t.csc.meterT = none ∧ t.alc.timer = none)
        ∧ (¬ ended → t.csc.session = .stopping ∧ t.csc.stoppingT = s.csc.stoppingT ∧ t.csc.enable = s.csc.enable))

/-- The REQUEST, METER, STATUS and HELLO timers schedule their frames, with payloads from the state at that moment, and restart. In
LINKING a HELLO raises the count up to 3; at count 3 the first expiry raises STATION_ABSENT instead and slows the timer to 30,000 ms,
and every further expiry schedules a HELLO with the count at 3. What an expiry outside its states does is the model's reading (log
entry 28). -/
def Obligations.FrameTimersScheduleFrames : Prop :=
  ∀ s : State,
    (s.csc.requestT.isSome = true → s.csc.session.isLive = true →
      ∃ t, exec .requestTimerExpiry s = .next t
        ∧ t.csc = { s.csc with lastField := requestField s, requestT := some 1000 }
        ∧ waitingFrame t.slc .request =
            some (partFrame .request s.slc.ownAddr (requestPayload (requestField s) s.csc.session (requestSeq s)))
        ∧ keepsAllBut [.csc, .slc] s t)
    ∧ (s.csc.requestT.isSome = true → s.csc.session.isLive = false →
      exec .requestTimerExpiry s = .next { s with csc := { s.csc with requestT := none } })
    ∧ (s.csc.meterT.isSome = true → s.csc.session = .transfer ∨ s.csc.session = .hold → s.csc.unrecorded = false →
      ∀ n, openSession s = some n →
        ∃ t, exec .meterTimerExpiry s = .next t
          ∧ t.csc = { s.csc with meterT := some 60000 }
          ∧ waitingFrame t.slc .meter = some (partFrame .meter s.slc.ownAddr
              (be16 n ++ be32 (sessionSetFor s n).net.imp
                ++ be32 (cents (sessionSetFor s n).tractionTicks + cents (sessionSetFor s n).heatingTicks)))
          ∧ keepsAllBut [.csc, .slc] s t)
    ∧ (s.csc.meterT.isSome = true → s.csc.session = .transfer ∨ s.csc.session = .hold → s.csc.unrecorded = true →
      exec .meterTimerExpiry s = .next { s with csc := { s.csc with meterT := some 60000 } })
    ∧ (s.csc.statusT.isSome = true →
      ∃ t, exec .statusTimerExpiry s = .next t
        ∧ t.csc = { s.csc with statusT := some 5000 }
        ∧ waitingFrame t.slc .status = some (partFrame .status s.slc.ownAddr (statusPayload s))
        ∧ keepsAllBut [.csc, .slc] s t)
    ∧ (s.csc.session = .linking → s.csc.helloT.isSome = true →
      (s.csc.absentRaised = true ∨ s.csc.helloCount < 3 →
        ∃ t, exec .helloTimerExpiry s = .next t
          ∧ t.csc = { s.csc with
              helloCount := min 3 (s.csc.helloCount + 1)
              helloT := some (if s.csc.absentRaised then 30000 else 5000) }
          ∧ waitingFrame t.slc .hello = some (partFrame .hello s.slc.ownAddr (be8 72 ++ be16 s.alc.rating))
          ∧ keepsAllBut [.csc, .slc] s t)
      ∧ (s.csc.absentRaised = false → 3 ≤ s.csc.helloCount →
        exec .helloTimerExpiry s = .next
          { s with
            csc := { s.csc with absentRaised := true, helloT := some 30000 }
            vp := { s.vp with events := s.vp.events ||| 0x0004 } }))

/-- The four session commands follow the table of R20 in every session state; a refused command stores BAD_STATE and raises
REFUSAL. In CHECKING no stop reason is recorded yet, which the premise says. A STOP in TRANSFER makes the battery share 0 at once and
leaves the allocator's other results as they stand (section 2.3 of chapter 2). -/
def Obligations.SessionCommandsFollowTheirTable : Prop :=
  ∀ s : State, s.vp.takesWrites →
    (s.csc.session = .unplugged ∨ s.csc.session = .linking ∨ s.csc.session = .stopping →
      exec .authorize s = .next (s.afterRefusal .vp .badState 0x20))
    ∧ (s.csc.session = .ready ∨ s.csc.session = .ended →
      ∃ t, exec .authorize s = .next t ∧ t.csc.auth = true
        ∧ t.csc.session = (if offerValid s = true ∧ s.asm.subst = .off ∧ s.pins.fault = false ∧ s.pins.supplyFail = false
            then .checking else s.csc.session))
    ∧ (s.csc.session = .checking ∨ s.csc.session.isLive = true → exec .authorize s = .next (s.afterWord .vp))
    ∧ (s.csc.session = .unplugged ∨ s.csc.session = .linking →
      exec .pause s = .next (s.afterRefusal .vp .badState 0x20) ∧ exec .resume s = .next (s.afterRefusal .vp .badState 0x20))
    ∧ (s.csc.session ≠ .unplugged → s.csc.session ≠ .linking →
      (∃ t, exec .pause s = .next t ∧ t.csc.holds = { s.csc.holds with vehiclePause := true }
        ∧ t.csc.session = (if s.csc.session = .transfer ∧ s.csc.holds.vehiclePause = false then .hold else s.csc.session))
      ∧ (∃ t, exec .resume s = .next t ∧ t.csc.holds = { s.csc.holds with vehiclePause := false }
        ∧ (s.csc.session = .hold → s.csc.holds.vehiclePause = true →
            t.csc.session = (if s.csc.holds = { HoldSet.empty with vehiclePause := true } then .transfer else .hold))))
    ∧ (s.csc.session = .unplugged → exec .stop s = .next (s.afterRefusal .vp .badState 0x20))
    ∧ (s.csc.session = .linking ∨ s.csc.session = .stopping → exec .stop s = .next (s.afterWord .vp))
    ∧ (s.csc.session = .ready ∨ s.csc.session = .ended →
      exec .stop s = .next { s.afterWord .vp with csc := { s.csc with auth := false } })
    ∧ (s.csc.session = .checking → s.csc.stopReason = none →
      ∃ t, exec .stop s = .next t ∧ t.csc.session = closedSession s ∧ t.csc.stopReason = some .vehicleStop
        ∧ t.csc.checkingT = none ∧ t.imn.checkPending = false
        ∧ waitingFrame t.slc .stop = some (partFrame .stop s.slc.ownAddr (be8 1)))
    ∧ (s.csc.session.isLive = true →
      ∃ t, exec .stop s = .next t ∧ t.csc.session = .stopping
        ∧ t.csc.stopReason = some (s.csc.stopReason.getD .vehicleStop) ∧ t.csc.stoppingT = some 1000
        ∧ t.csc.enable = s.csc.enable
        ∧ t.alc = (if s.csc.session = .transfer then { s.alc with share := 0 } else s.alc)
        ∧ (s.csc.stopReason = none → waitingFrame t.slc .stop = some (partFrame .stop s.slc.ownAddr (be8 1))))

/-- A change of the hold set: outside the hold-set states, and where the reason stands already as asked, nothing; else the set
changes, the change is recorded while a bank is OPEN, a REQUEST waits in a live session, TRANSFER and HOLD follow the set, and the
hold event is raised. Leaving TRANSFER for HOLD makes the battery share 0 at once and leaves the allocator's other results as they
stand until the next expiry. Two changes of different reasons lead to the same set in either order. The REQUEST carries the state code of
before the change by the model's reading (log entry 14). -/
def Obligations.HoldChangesTakeTheirSteps : Prop :=
  ∀ (s : State) (r : HoldReason) (present : Bool),
    (s.csc.session.keepsHolds = false ∨ s.csc.holds.has r = present → changeHold r present s = s)
    ∧ (s.csc.session.keepsHolds = true → s.csc.holds.has r = !present →
        (changeHold r present s).csc.holds = s.csc.holds.put r present
        ∧ (changeHold r present s).vp.events.getLsbD 1 = true
        ∧ (memWf s.brs.mem = true → ∀ b, openBank s = some b → (s.brs.banks.get b).next < 64 →
            recordWordAt (changeHold r present s) b (s.brs.banks.get b).next 0 =
              natWord (8192 + 256 * secondHigh s.ttc.second + (if present then 1 else 2))
            ∧ recordWordAt (changeHold r present s) b (s.brs.banks.get b).next 1 = natWord s.ttc.day
            ∧ recordWordAt (changeHold r present s) b (s.brs.banks.get b).next 2 = natWord s.ttc.second
            ∧ recordWordAt (changeHold r present s) b (s.brs.banks.get b).next 3 = natWord r.code
            ∧ (s.brs.banks.get b).next < ((changeHold r present s).brs.banks.get b).next)
        ∧ (s.csc.session.isLive = true →
            waitingFrame (changeHold r present s).slc .request =
              some (partFrame .request s.slc.ownAddr (requestPayload (requestField s) s.csc.session (requestSeq s)))
            ∧ (changeHold r present s).csc.requestT = some 1000)
        ∧ (changeHold r present s).csc.session =
            (if s.csc.session = .transfer ∨ s.csc.session = .hold then
              (if s.csc.holds.put r present = HoldSet.empty then .transfer else .hold) else s.csc.session)
        ∧ (s.csc.session = .transfer → s.csc.holds.put r present ≠ HoldSet.empty →
            (changeHold r present s).alc = { s.alc with share := 0 })
        ∧ (s.csc.session ≠ .transfer → s.csc.session ≠ .hold → (changeHold r present s).alc = s.alc)
        ∧ (s.csc.session = .hold →
            (changeHold r present s).alc.share = s.alc.share ∧ (changeHold r present s).alc.setpoint = s.alc.setpoint
            ∧ (changeHold r present s).alc.grant = s.alc.grant ∧ (changeHold r present s).alc.target = s.alc.target
            ∧ (changeHold r present s).alc.lastRequest = s.alc.lastRequest))
    ∧ (∀ (r' : HoldReason) (present' : Bool), r ≠ r' →
        (changeHold r' present' (changeHold r present s)).csc.holds = (changeHold r present (changeHold r' present' s)).csc.holds)

/-! ### Charge allocation -/

/-- One allocation expiry, with the formulas of the chapter written out: the voltage check, cap and power available, heater grant,
battery share, AC request, DC target and the ramp step with the quiet flag open or closed; NO_VOLTAGE follows the check, and a
request that differs from the last field by 5 deciamps or more is scheduled. The order of the hand-overs, and the state code in the
REQUEST of an expiry that moves the session too, are the model's choice (log entries 5 and 14). -/
def Obligations.AllocationExpiryComputes : Prop :=
  ∀ s : State, s.alc.timer.isSome = true → s.csc.session.isOpen = true →
    let a := s.alc
    let low : Bool := decide (a.vrms < 5000) || decide (a.vbus < 2500)
    let valid : Option Offer := s.csc.offer.filter fun o => decide (0 < o.max) && decide (o.min ≤ o.max)
    let cap : Nat := match valid with
      | none => 0
      | some o => min o.max a.rating
    let available : Nat := a.vrms * cap / 500 * a.efficiency / 1000
    let heater : Nat := if s.csc.session = .stopping then 0 else min (heaterRequest s.bhc) available
    let battery : Nat := if s.csc.session = .transfer ∧ s.csc.holds = HoldSet.empty then
      min (available - heater) (min a.powerLimit (a.currentLimit * a.vbus.toNat / 500)) else 0
    let raw : Nat := ((battery + heater) * 500000 + (a.efficiency * a.vrms - 1)) / (a.efficiency * a.vrms)
    let lifted : Nat := match valid with
      | none => raw
      | some o => if 0 < raw ∧ raw < o.min then o.min else raw
    let request : Nat := if low then 0 else min lifted cap
    let target : Nat := if low then 0 else min 4095 ((battery + heater) * 500 / a.vbus.toNat)
    let setpoint : Nat :=
      if a.quiet = true ∧ s.csc.session ≠ .stopping then (if target + 5 < a.setpoint then target else a.setpoint)
      else if a.setpoint + 10 < target then a.setpoint + 10 else target
    ∃ t, exec .allocationTimerExpiry s = .next t
      ∧ t.alc.timer = some 100 ∧ t.alc.grant = (if low then 0 else heater) ∧ t.alc.share = (if low then 0 else battery)
      ∧ t.alc.lastRequest = request ∧ t.alc.target = target ∧ t.alc.setpoint = setpoint
      ∧ t.alc.vrms = a.vrms ∧ t.alc.vbus = a.vbus ∧ t.alc.rating = a.rating ∧ t.alc.efficiency = a.efficiency
      ∧ t.csc.holds = { s.csc.holds with noVoltage := low }
      ∧ t.csc.enable = s.csc.enable
      ∧ (5 ≤ (request - s.csc.lastField) + (s.csc.lastField - request) →
          waitingFrame t.slc .request = some (partFrame .request s.slc.ownAddr (requestPayload
            (min (min request (match s.csc.offer with
                               | none => 0
                               | some o => o.max)) a.rating) s.csc.session (requestSeq s)))
          ∧ t.csc.requestT = some 1000)
      ∧ (s.bhc.mode = .plugged → s.bhc.st ≠ .lockedOut → s.bhc.quiet = false → t.bhc.grant = if low then 0 else heater)

/-- After an allocation expiry the request is within the converter rating and the valid offer's maximum, heater and battery together
stay within the power the offer makes available, the target asks for no more than they do, and the request covers their power by
the efficiency unless the cap has cut it. The ramp step raises the present setpoint by at most 10 counts, or leaves it equal to the
target. -/
def Obligations.AllocationStaysWithinItsBounds : Prop :=
  ∀ s : State, s.alc.timer.isSome = true → 0 < s.alc.efficiency →
    ∃ t, exec .allocationTimerExpiry s = .next t
      ∧ t.alc.lastRequest ≤ s.alc.rating
      ∧ (∀ o, s.csc.offer = some o → o.valid = true →
          t.alc.lastRequest ≤ o.max
          ∧ t.alc.grant + t.alc.share ≤ s.alc.vrms * min o.max s.alc.rating / 500 * s.alc.efficiency / 1000
          ∧ (t.alc.lastRequest < min o.max s.alc.rating →
              (t.alc.grant + t.alc.share) * 500000 ≤ t.alc.lastRequest * (s.alc.efficiency * s.alc.vrms)))
      ∧ (offerValid s = false → t.alc.lastRequest = 0 ∧ t.alc.grant = 0 ∧ t.alc.share = 0 ∧ t.alc.target = 0)
      ∧ t.alc.target ≤ 4095 ∧ t.alc.target * s.alc.vbus.toNat ≤ (t.alc.grant + t.alc.share) * 500
      ∧ t.alc.share ≤ s.alc.powerLimit
      ∧ (t.alc.setpoint ≤ s.alc.setpoint + 10 ∨ t.alc.setpoint = t.alc.target)

/-! ### The station line -/

/-- Zero insertion and the receive assembler agree: any content of fewer than 30 bytes, framed by the transmitter's rule and closed
by a delimiter, reaches the receiver's tests bit for bit, whatever runs of 1s it holds. A frame of a station kind, framed and
checked by the transmitter's rules, addressed to the part and sent by a talker that is no vehicle, passes the receiver: with fewer
than two frames waiting it is placed with its fields as treated, and a free dispatcher with an empty queue takes it at once, marked
to be discarded in UNPLUGGED; with two waiting it is lost with RX_LOST. The field treatment of each station kind is written out. How
the receiver holds the bits, and that a stopped silence timer stays stopped, is the model's choice (log entries 17 and 3). -/
def Obligations.IntactStationFrameReachesTheQueue : Prop :=
  (∀ (s : State) (content : List Bool), s.slc.rx = Rx.opened → 0 < content.length → content.length < 240 →
    exec (.contentClosed (stuff content)) s =
      .next (closeContent content { s with slc := { s.slc with rx := Rx.opened, idle := 0 } }))
  ∧ (∀ (s : State) (dest src kind : Byte) (payload : List Byte) (m : StationMsg),
    s.slc.rx = Rx.opened → s.slc.addressed dest = true → roleOf src ≠ 2 → payload.length ≤ 24 →
    fieldTest kind payload = .accepted m →
    ∃ t, exec (.contentClosed (frameBits (dest :: src :: kind :: payload))) s = .next t
      ∧ t.slc.rx = Rx.opened ∧ t.slc.idle = 0 ∧ t.slc.deferring = false ∧ t.slc.lastError = s.slc.lastError
      ∧ (s.slc.queue.length < 2 → s.csc.dispatcher.isSome = true →
          t.slc.queue = s.slc.queue ++ [⟨src, m⟩] ∧ t.csc.dispatcher = s.csc.dispatcher
          ∧ t.csc.takenUnplugged = s.csc.takenUnplugged)
      ∧ (s.slc.queue = [] → s.csc.dispatcher = none → t.slc.queue = [] ∧ t.csc.dispatcher = some ⟨src, m⟩
          ∧ t.csc.takenUnplugged = (s.csc.session == .unplugged))
      ∧ (s.slc.queue.length < 2 → roleOf src = 1 →
          t.csc.silence = s.csc.silence.map (fun _ => 0)
          ∧ (s.csc.session.keepsHolds = true → t.csc.holds = { s.csc.holds with stationSilent := false }))
      ∧ (2 ≤ s.slc.queue.length → t.slc.queue = s.slc.queue ∧ t.csc = s.csc ∧ t.vp.events = s.vp.events ||| 0x0010))
  ∧ (∀ o i1 i0, fieldTest 0x41 [o, i1, i0] = .accepted (.assign (min 31 o.toNat) (i1 ++ i0)))
  ∧ (∀ q m1 m0 n1 n0, fieldTest 0x42 [q, m1, m0, n1, n0] =
      .accepted (.offer q.toNat (min 400 (m1 ++ m0).toNat) (max 60 (n1 ++ n0).toNat)))
  ∧ (∀ a b c d, fieldTest 0x43 [a, b, c, d] = .accepted (.auth (a ++ b ++ c ++ d)))
  ∧ (∀ d1 d0 a b c, fieldTest 0x44 [d1, d0, a, b, c] =
      if 86399 < (a ++ b ++ c).toNat then .ignored else .accepted (.time (d1 ++ d0).toNat (a ++ b ++ c).toNat))
  ∧ (∀ a b, fieldTest 0x45 [a, b] = .accepted (.pause (a ++ b).toNat))
  ∧ fieldTest 0x46 [] = .accepted .resume
  ∧ (∀ a, fieldTest 0x47 [a] = .accepted (.stop a))
  ∧ (∀ kind payload, kind ∉ [0x41, 0x42, 0x43, 0x44, 0x45, 0x46, 0x47] → fieldTest kind payload = .ignored)

/-- The receiver notes each line error by its kind and raises LINE_ERROR: ABORT for seven 1s with content held, LONG at the 30th
content byte, and at the closing delimiter FRACTIONAL, SHORT, CHECK and LENGTH. An intact frame of a vehicle, of an address that
matches no slot, or of an unknown kind or an impossible time is dropped without error; a delimiter outside content, and seven 1s
without content, note nothing. How the receiver holds the bits, that the seven 1s of an abort and the 1s before them are no content,
and that ERROR_LONG says the 30th byte is complete, is the model's choice (log entry 17). -/
def Obligations.LineErrorsAreNoted : Prop :=
  ∀ s : State,
    (∀ bits, s.slc.rx = Rx.opened → contentBits bits = true → false ∈ bits → bits.length < 240 →
      ∃ t, exec (.errorAbort bits) s = .next t ∧ t.slc.lastError = .abort ∧ t.slc.rx.st = .hunt ∧ t.slc.rx.content = []
        ∧ t.vp.events = s.vp.events ||| 0x0008 ∧ t.slc.queue = s.slc.queue ∧ t.slc.table = s.slc.table
        ∧ keepsAllBut [.slc, .vp] s t)
    ∧ (∀ bits, s.slc.rx = Rx.opened → contentBits bits = true → false ∉ bits →
      exec (.errorAbort bits) s = .next
        { s with slc := { s.slc with rx := ⟨.hunt, [], false, 7⟩, idle := s.slc.idle + bits.length + 7 } })
    ∧ (∀ content, s.slc.rx = Rx.opened → content.length = 240 →
      (∃ t, exec (.errorLong (stuff content)) s = .next t ∧ t.slc.lastError = .long ∧ t.slc.rx.st = .skip ∧ t.slc.rx.content = []
        ∧ t.vp.events = s.vp.events ||| 0x0008 ∧ t.slc.queue = s.slc.queue ∧ t.slc.table = s.slc.table
        ∧ keepsAllBut [.slc, .vp] s t)
      ∧ (content.getLast? = some false →
        ∃ t, exec (.errorAbort (stuff content)) s = .next t ∧ t.slc.lastError = .long ∧ t.slc.rx.st = .skip
          ∧ t.slc.rx.content = [] ∧ t.vp.events = s.vp.events ||| 0x0008 ∧ keepsAllBut [.slc, .vp] s t))
    ∧ (∀ content e, s.slc.rx = Rx.opened → 0 < content.length → content.length < 240 →
      (e = LineError.fractional ∧ content.length % 8 ≠ 0
        ∨ e = LineError.short ∧ content.length % 8 = 0 ∧ content.length < 40
        ∨ e = LineError.check ∧ content.length % 8 = 0 ∧ 40 ≤ content.length ∧ crc16 content ≠ 0x1D0F) →
      exec (.contentClosed (stuff content)) s = .next
        { s with
          slc := { s.slc with rx := Rx.opened, idle := 0, lastError := e }
          vp := { s.vp with events := s.vp.events ||| 0x0008 } })
    ∧ (∀ dest src kind payload, s.slc.rx = Rx.opened → payload.length ≤ 24 →
      (roleOf src ≠ 2 → s.slc.addressed dest = true → fieldTest kind payload = .wrongLength →
        exec (.contentClosed (frameBits (dest :: src :: kind :: payload))) s = .next
          { s with
            slc := { s.slc with rx := Rx.opened, idle := 0, deferring := false, lastError := .length }
            vp := { s.vp with events := s.vp.events ||| 0x0008 } })
      ∧ (roleOf src = 2 →
        exec (.contentClosed (frameBits (dest :: src :: kind :: payload))) s = .next
          { s with slc := { s.slc with rx := Rx.opened, idle := 0 } })
      ∧ (roleOf src ≠ 2 → s.slc.addressed dest = false ∨ fieldTest kind payload = .ignored →
        exec (.contentClosed (frameBits (dest :: src :: kind :: payload))) s = .next
          { s with slc := { s.slc with rx := Rx.opened, idle := 0, deferring := false } }))
    ∧ (∀ k n, (k, n) ∈ [((0x41 : Byte), 3), (0x42, 5), (0x43, 4), (0x44, 5), (0x45, 2), (0x46, 0), (0x47, 1)] →
      ∀ payload, payload.length ≠ n → fieldTest k payload = .wrongLength)
    ∧ (s.slc.rx.st ≠ .assemble ∨ s.slc.rx = Rx.opened →
      exec .delimiterCompletes s = .next { s with slc := { s.slc with rx := Rx.opened, idle := 0 } })
    ∧ (s.slc.rx = Rx.opened →
      exec .lineGoingIdle s = .next
        { s with slc := { s.slc with rx := ⟨.hunt, [], false, 7⟩, idle := s.slc.idle + 7 } })
    ∧ (s.slc.rx.st ≠ .assemble →
      exec .lineGoingIdle s = .next
        { s with slc := { s.slc with rx := { s.slc.rx with ones := 7 }, idle := s.slc.idle + 7 } })

/-- An access begins with the entry highest in the order STOP, REQUEST, METER, STATUS, HELLO in the bit time after the one in which
the idle count meets its class: 8 for STOP, 10 for the others, 11 while deferring. The requirement is tested afresh at every bit
time, so the idle count stands at the requirement, or where it stood if that was met already, when the part begins to drive. Short of
the count, or with every entry empty, the transmitter waits and the bit times are counted; with an own frame on the line they are
counted and no access begins. The further bit times are the command's operand, and waiting below the count is the model's choice
(log entries 2 and 29); that the bit times left over when the access begins do not come, and that those beside an own frame are not
compared with it, is the model's choice too (log entry 34). The line bits of a frame whose check bytes end in five 1s have no 0
inserted after them by the model's reading (log entry 40). -/
def Obligations.AccessBeginsWithTheHighestEntry : Prop :=
  ∀ (s : State) (ones : Nat),
    (s.slc.sending = none →
      (∀ k f, (s.slc.table.get k).frame = some f → (∀ k', k'.rank < k.rank → (s.slc.table.get k').frame = none) →
        let need : Nat := if k = .stop then 8 else if s.slc.deferring then 11 else 10
        ∃ t, exec (.txAccessStart ones) s = .next t
          ∧ t.slc.table = s.slc.table ∧ t.slc.deferring = s.slc.deferring
          ∧ (need ≤ s.slc.idle + ones →
              t.slc.sending = some (onTheLine k f false) ∧ t.slc.idle = max s.slc.idle need)
          ∧ (s.slc.idle + ones < need → t.slc.sending = none ∧ t.slc.idle = s.slc.idle + ones)
          ∧ keepsAllBut [.slc, .vp] s t)
      ∧ ((∀ k, (s.slc.table.get k).frame = none) →
        ∃ t, exec (.txAccessStart ones) s = .next t
          ∧ t.slc.sending = none ∧ t.slc.idle = s.slc.idle + ones ∧ t.slc.table = s.slc.table
          ∧ keepsAllBut [.slc, .vp] s t))
    ∧ (∀ x, s.slc.sending = some x →
      ∃ t, exec (.txAccessStart ones) s = .next t
        ∧ t.slc.sending = some x ∧ t.slc.idle = s.slc.idle + ones ∧ t.slc.table = s.slc.table
        ∧ keepsAllBut [.slc, .vp] s t)

/-- The end of the part's own frame on the line: success empties its entry or gives it the replacement, sets the deferring flag, and
lets one further entry follow within the access; a loss of arbitration keeps the frame and its count; a late mismatch counts a
failure, and the third drops the frame with LINE_FAULT. A frame whose entry was withdrawn while it is on the line goes on to its end
and is not kept, retried or counted there: whatever its entry has taken since stays, and no LINE_FAULT is raised. The part hears its
own frame without noting an error. The bit that reads back differently is the command's operand (log entry 29), and that the line
bits of a frame whose check bytes end in five 1s have no 0 inserted after them is the model's reading (log entry 40). -/
def Obligations.FrameEndsUpdateTheTable : Prop :=
  ∀ (s : State) (k : TxKind) (f : TxFrame) (second : Bool),
    roleOf f.src = 2 → f.payload.length ≤ 20 → (second = false → s.slc.rx.st ≠ .assemble) →
    (second = true → s.slc.rx = Rx.opened) →
    let s1 : State := { s with
      slc := { s.slc with
        sending := some (onTheLine k f second)
        table := s.slc.table.set k { s.slc.table.get k with frame := some f } } }
    let ended : TxEntry := match (s.slc.table.get k).replacement with
      | none => TxEntry.empty
      | some r => ⟨some r, 0, none⟩
    ((second = true ∨ ∀ k', k' ≠ k → (s.slc.table.get k').frame = none) →
      exec .frameSuccess s1 = .next
        { s with slc := { s.slc with
            rx := Rx.opened, idle := 0, deferring := true, sending := none, table := s.slc.table.set k ended } })
    ∧ (second = false → ∀ k' f', k' ≠ k → (s.slc.table.get k').frame = some f' →
        (∀ k'', k'' ≠ k → k''.rank < k'.rank → (s.slc.table.get k'').frame = none) →
        exec .frameSuccess s1 = .next
          { s with slc := { s.slc with
              rx := Rx.opened, idle := 0, deferring := true, sending := some (onTheLine k' f' true)
              table := s.slc.table.set k ended } })
    ∧ (∀ pos, pos < (onTheLine k f second).arbitration → (onTheLine k f second).bits[pos]? = some true →
        ∃ t, exec (.arbitrationLost pos) s1 = .next t
          ∧ t.slc.sending = none ∧ t.slc.idle = 0 ∧ t.slc.deferring = s.slc.deferring ∧ t.slc.lastError = s.slc.lastError
          ∧ t.slc.table = s.slc.table.set k
              (match (s.slc.table.get k).replacement with
                | none => { s.slc.table.get k with frame := some f }
                | some r => ⟨some r, 0, none⟩)
          ∧ keepsAllBut [.slc] s t)
    ∧ (∀ pos b, (onTheLine k f second).bits[pos]? = some b →
        (b = false ∨ (onTheLine k f second).arbitration ≤ pos) →
        ∃ t, exec (.lateMismatch pos) s1 = .next t
          ∧ t.slc.sending = none ∧ t.csc = s.csc
          ∧ t.slc.table = s.slc.table.set k
              (match (s.slc.table.get k).replacement with
                | none =>
                  if (s.slc.table.get k).fails < 2 then
                    { frame := some f, fails := (s.slc.table.get k).fails + 1, replacement := none }
                  else TxEntry.empty
                | some r => ⟨some r, 0, none⟩)
          ∧ t.vp.events.getLsbD 5 = (s.vp.events.getLsbD 5 || decide (2 ≤ (s.slc.table.get k).fails)))
    ∧ (let s2 : State := { s with slc := { s.slc with sending := some { onTheLine k f second with withdrawn := true } } }
      ((second = true ∨ ∀ k', k' ≠ k → (s.slc.table.get k').frame = none) →
        exec .frameSuccess s2 = .next
          { s with slc := { s.slc with rx := Rx.opened, idle := 0, deferring := true, sending := none } })
      ∧ (second = false → ∀ k' f', k' ≠ k → (s.slc.table.get k').frame = some f' →
          (∀ k'', k'' ≠ k → k''.rank < k'.rank → (s.slc.table.get k'').frame = none) →
          exec .frameSuccess s2 = .next
            { s with slc := { s.slc with
                rx := Rx.opened, idle := 0, deferring := true, sending := some (onTheLine k' f' true) } })
      ∧ (∀ pos, pos < (onTheLine k f second).arbitration → (onTheLine k f second).bits[pos]? = some true →
          ∃ t, exec (.arbitrationLost pos) s2 = .next t
            ∧ t.slc.sending = none ∧ t.slc.idle = 0 ∧ t.slc.deferring = s.slc.deferring
            ∧ t.slc.lastError = s.slc.lastError ∧ t.slc.table = s.slc.table ∧ keepsAllBut [.slc] s t)
      ∧ (∀ pos b, (onTheLine k f second).bits[pos]? = some b →
          (b = false ∨ (onTheLine k f second).arbitration ≤ pos) →
          ∃ t, exec (.lateMismatch pos) s2 = .next t
            ∧ t.slc.sending = none ∧ t.csc = s.csc ∧ t.slc.table = s.slc.table
            ∧ t.vp.events.getLsbD 5 = s.vp.events.getLsbD 5))

/-! ### Insulation monitoring -/

/-- The timers and the phases of the bridge cycle: the spacing timer restarts and asks for a spaced cycle while the session is live,
the settle timer only runs out, the first counting slot after it opens the quiet window and begins the averaging, and the disabled
timer makes the verdict stale. The 256th counting slot of phase A keeps the two averages, floored, closes the quiet window and enters
the settle of phase B; before it AVERAGING_END changes nothing (log entry 2). -/
def Obligations.TheCycleMovesThroughItsPhases : Prop :=
  ∀ s : State,
    (s.imn.spacingT.isSome = true → s.csc.session.isLive = false →
      exec .spacingTimerExpiry s = .next { s with imn := { s.imn with spacingT := some (s.imn.spacingS * 1000) } })
    ∧ (s.imn.spacingT.isSome = true → s.csc.session.isLive = true → s.imn.st ≠ .idle →
      exec .spacingTimerExpiry s = .next
        { s with imn := { s.imn with spacingT := some (s.imn.spacingS * 1000), spacedPending := true } })
    ∧ (s.imn.spacingT.isSome = true → s.csc.session.isLive = true → s.imn.st = .idle →
      ∃ t, exec .spacingTimerExpiry s = .next t
        ∧ t.imn.st = .settleA ∧ t.imn.kind = (if s.imn.unlockPending then .unlock else .normal)
        ∧ t.imn.spacedPending = false ∧ t.imn.restarts = 0 ∧ t.imn.avgA = none ∧ t.imn.avgB = none
        ∧ t.imn.settleT = some s.imn.settleMs ∧ t.imn.spacingT = some (s.imn.spacingS * 1000)
        ∧ t.imn.servesCheck = s.imn.checkPending ∧ t.imn.servesRetest = s.imn.retestPending
        ∧ keepsAllBut [.imn] s t)
    ∧ exec .settleTimerExpiry s = .next { s with imn := { s.imn with settleT := none } }
    ∧ (s.imn.settleReady = true → s.imn.st = .settleA ∨ s.imn.st = .settleB →
      ∃ t, exec .settleEnd s = .next t
        ∧ t.imn.st = (if s.imn.st = .settleA then .averageA else .averageB)
        ∧ t.imn.sumP = 0 ∧ t.imn.sumN = 0 ∧ t.imn.sumV = 0 ∧ t.imn.count = 0
        ∧ (s.imn.st = .settleA → t.imn.isolatedA = !s.bhc.contactor)
        ∧ (s.imn.st = .settleB → t.imn.isolatedB = !s.bhc.contactor)
        ∧ t.alc = { s.alc with quiet := true }
        ∧ t.bhc = { s.bhc with quiet := true, st := if s.bhc.st = .heating then .quiet else s.bhc.st }
        ∧ keepsAllBut [.imn, .alc, .bhc] s t)
    ∧ (s.imn.disabledT.isSome = true →
      exec .disabledTimerExpiry s = .next
        { s with imn := { s.imn with disabledT := none, stale := true, fresh := false } })
    ∧ ∀ order : HandOver,
      (s.imn.count ≠ 256 → exec (.averagingEnd order) s = .next s)
      ∧ (s.imn.count = 256 → s.imn.st = .averageA →
        ∃ t, exec (.averagingEnd order) s = .next t
          ∧ t.imn.avgA = some ⟨Int.fdiv s.imn.sumP 256, Int.fdiv s.imn.sumN 256⟩
          ∧ t.imn.st = .settleB ∧ t.imn.settleT = some s.imn.settleMs ∧ t.imn.settleReady = false
          ∧ t.imn.kind = s.imn.kind ∧ t.imn.restarts = s.imn.restarts ∧ t.imn.verdict = s.imn.verdict
          ∧ t.imn.cause = s.imn.cause ∧ t.imn.result = s.imn.result
          ∧ t.alc = { s.alc with quiet := false } ∧ t.bhc.quiet = false
          ∧ (s.bhc.st = .quiet → s.bhc.mode ≠ .none → s.bhc.demand ≠ 0 → s.pins.supplyFail = false → s.bhc.waits.any = false →
              t.bhc.st = .heating ∧ t.bhc.grant = s.bhc.grant
              ∧ t.bhc.duty = (if s.bhc.vbus < 2500 ∨ s.bhc.grant = 0 then 0 else
                  min 1024 ((s.bhc.grant * 1024 + ((s.bhc.vbus * s.bhc.vbus).toNat / (250 * s.bhc.resistance) - 1))
                    / ((s.bhc.vbus * s.bhc.vbus).toNat / (250 * s.bhc.resistance)))))
          ∧ keepsAllBut [.imn, .alc, .bhc] s t)

/-- A disturbance notice restarts the phase that is being averaged from its settle, with the window closed, the sums dropped and the
restart count one higher; the fourth completes the cycle marked DISTURBED, with no resistance and the verdict as it was; in every
other cycle state the notice changes nothing. A cut of the converter, a heater that leaves QUIET and the link going DOWN each hand
one. That a cut's notice is taken while the session is still live is the model's choice (log entry 5), and the record's own fields
at a fourth restart are those of the phase that ended. -/
def Obligations.NoticesRestartThePhase : Prop :=
  ∀ s : State,
    (s.imn.st.isAveraging = false → takeNotice s = s)
    ∧ (s.imn.st.isAveraging = true → s.imn.restarts < 3 →
        (takeNotice s).imn.st = (if s.imn.st = .averageA then .settleA else .settleB)
        ∧ (takeNotice s).imn.restarts = s.imn.restarts + 1 ∧ (takeNotice s).imn.settleT = some s.imn.settleMs
        ∧ (takeNotice s).imn.settleReady = false ∧ (takeNotice s).imn.count = 0
        ∧ (takeNotice s).imn.sumP = 0 ∧ (takeNotice s).imn.sumN = 0 ∧ (takeNotice s).imn.sumV = 0
        ∧ (takeNotice s).imn.kind = s.imn.kind ∧ (takeNotice s).imn.avgA = s.imn.avgA
        ∧ (takeNotice s).imn.result = s.imn.result ∧ (takeNotice s).imn.verdict = s.imn.verdict
        ∧ (takeNotice s).imn.cause = s.imn.cause ∧ (takeNotice s).imn.faultCount = s.imn.faultCount
        ∧ (takeNotice s).alc = { s.alc with quiet := false } ∧ (takeNotice s).bhc.quiet = false
        ∧ keepsAllBut [.imn, .alc, .bhc] s (takeNotice s))
    ∧ (s.imn.st.isAveraging = true → s.imn.restarts = 3 → CountsInRange s.imn →
        (takeNotice s).imn.result = some
          { rp := none, rn := none, min := none, busVolts := s.imn.avgB.map fun b => Int.fdiv b.vbus 50, disturbed := true
            branch := s.imn.kind == .branch, heaterIsolated := s.imn.isolatedA && s.imn.isolatedB, restarts := 4
            day := s.ttc.day, second := s.ttc.second }
        ∧ (takeNotice s).imn.verdict = s.imn.verdict ∧ (takeNotice s).imn.cause = s.imn.cause
        ∧ (takeNotice s).imn.faultCount = s.imn.faultCount ∧ (takeNotice s).imn.latch = s.imn.latch
        ∧ (takeNotice s).imn.fresh = s.imn.fresh ∧ (takeNotice s).imn.stale = s.imn.stale
        ∧ (takeNotice s).imn.checkPending = s.imn.checkPending
        ∧ ((takeNotice s).imn.st = .idle ∨ (takeNotice s).imn.st = .settleA)
        ∧ (s.imn.checkPending = true → (takeNotice s).imn.st = .settleA ∧ (takeNotice s).imn.servesCheck = true)
        ∧ (s.imn.kind = .branch → (takeNotice s).imn.trigger = none ∧ (takeNotice s).bhc.isolationHold = false)
        ∧ (s.imn.kind = .unlock → s.bhc.waits.unlockTest = true →
            (takeNotice s).bhc.st = .lockedOut ∧ (takeNotice s).bhc.lockCause = .heater)
        ∧ (takeNotice s).alc = { s.alc with quiet := false } ∧ (takeNotice s).bhc.quiet = false
        ∧ keepsAllBut [.imn, .alc, .bhc, .brs, .vp] s (takeNotice s))
    ∧ (s.imn.st.isAveraging = true → s.imn.restarts < 3 → s.alc.quiet = true → s.alc.setpoint ≠ 0 → s.pins.fault = false →
        s.csc.session.isLive = true →
        ∃ t, exec .converterFault s = .next t ∧ t.imn.restarts = s.imn.restarts + 1 ∧ t.imn.st.isAveraging = false
          ∧ t.imn.kind = s.imn.kind ∧ t.alc.quiet = false)
    ∧ (s.imn.st.isAveraging = true → s.imn.restarts < 3 → s.bhc.quiet = true → s.bhc.st = .quiet →
        s.bhc.staleT.isSome = true →
        ∃ t, exec .stalenessTimerExpiry s = .next t ∧ t.imn.restarts = s.imn.restarts + 1 ∧ t.imn.st.isAveraging = false
          ∧ t.bhc.duty = 0 ∧ t.bhc.quiet = false)
    ∧ (∀ (order : HandOver) (intact : Bool), s.imn.st.isAveraging = true → s.imn.restarts < 3 → 1 < s.mtr.slot →
        s.mtr.slot ≤ 4000 → s.ble.linkUp = true → s.ble.store = [] → s.ble.prevKind ≠ .fresh → s.ble.gapRun = 31 →
        ∃ t, exec (.metrologySlot order intact) s = .next t ∧ t.imn.restarts = s.imn.restarts + 1
          ∧ t.imn.st = (if s.imn.st = .averageA then .settleA else .settleB) ∧ t.ble.linkUp = false)

/-- A period result of a bus below 50 V disables the Insulation Monitor: a cycle that runs or waits for its branch test is abandoned,
with no result and the verdict as it was, a branch test hands its release and an unlock cycle fails, the spacing timer stops and the
disabled timer starts. The first result of 50 V or more enters IDLE again, where a pending request starts a cycle at once. A
substituted period, or one without a counting slot, is not tested. A fall of plug detect abandons the cycle too. The orders of the
hand-overs are those the model keeps (log entries 4 and 5). -/
def Obligations.LowBusDisablesTheMonitor : Prop :=
  ∀ s : State,
    (∀ order : HandOver, s.mtr.slot = 4001 →
      let mean : Int := Int.fdiv s.mtr.sums.vbus s.mtr.sums.n
      ∃ t, exec (.periodClose order) s = .next t
        ∧ (s.mtr.counts.substituted = true ∨ s.mtr.sums.n = 0 → (t.imn.st = .disabled ↔ s.imn.st = .disabled))
        ∧ (s.mtr.counts.substituted = false → 0 < s.mtr.sums.n →
          (mean < 2500 →
            t.imn.st = .disabled
            ∧ (s.imn.st = .disabled → t.imn.disabledT = s.imn.disabledT)
            ∧ (s.imn.st ≠ .disabled → t.imn.disabledT = some 60000 ∧ t.imn.spacingT = none ∧ t.imn.settleT = none)
            ∧ (s.imn.st.isCycle = true ∨ s.imn.st = .isolating → s.imn.restarts < 3 →
                t.imn.avgA = none ∧ t.imn.avgB = none ∧ t.imn.trigger = none ∧ t.imn.result = s.imn.result
                ∧ t.imn.verdict = s.imn.verdict ∧ t.imn.cause = s.imn.cause ∧ t.imn.faultCount = s.imn.faultCount
                ∧ t.imn.retest = s.imn.retest ∧ t.imn.fresh = s.imn.fresh
                ∧ (s.imn.kind = .branch ∨ s.imn.st = .isolating → t.bhc.isolationHold = false)
                ∧ (s.imn.kind = .unlock → s.imn.st ≠ .isolating →
                    t.imn.unlockPending = false ∧ (s.bhc.waits.unlockTest = true → t.bhc.st = .lockedOut))))
          ∧ (2500 ≤ mean → s.imn.st ≠ .disabled → t.imn.st ≠ .disabled)
          ∧ (2500 ≤ mean → s.imn.st = .disabled → s.asm.subst ≠ .ending → CheckStands s →
              t.imn.disabledT = none ∧ t.imn.spacingT = some (s.imn.spacingS * 1000) ∧ t.imn.verdict = s.imn.verdict
              ∧ t.imn.st = (if s.imn.checkPending ∨ s.imn.retestPending ∨ s.imn.unlockPending
                    ∨ (s.imn.spacedPending ∧ s.csc.session.isLive) then .settleA else .idle))))
    ∧ (s.pins.plug = true → s.imn.st.isCycle = true ∨ s.imn.st = .isolating → s.imn.restarts < 3 →
      ∃ t, exec .plugDetectFall s = .next t
        ∧ (t.imn.st = .idle ∨ t.imn.st = .settleA)
        ∧ t.imn.avgA = none ∧ t.imn.avgB = none ∧ t.imn.trigger = none ∧ t.imn.result = s.imn.result
        ∧ t.imn.verdict = s.imn.verdict ∧ t.imn.cause = s.imn.cause ∧ t.imn.faultCount = s.imn.faultCount
        ∧ t.imn.retest = s.imn.retest ∧ t.imn.fresh = s.imn.fresh)

/-- The resistances follow the five steps of the table of R78, whatever the averages. At the end of phase B the cycle's record holds
them with their minimum and the bus voltage; a cycle whose steps give none completes marked DISTURBED, and verdict, cause and fault
count keep their values. -/
def Obligations.ResistancesFollowTheirSteps : Prop :=
  (∀ (rM : Nat) (a : AveragesA) (b : AveragesB),
    let d := b.vp * a.vn - b.vn * a.vp
    (a.vp + a.vn ≤ 0 ∨ b.vp + b.vn ≤ 0 → resistances rM a b = none)
    ∧ (0 < a.vp + a.vn → 0 < b.vp + b.vn →
      (100 * a.vp < a.vp + a.vn → resistances rM a b = some (0, 50000))
      ∧ (a.vp + a.vn ≤ 100 * a.vp → 100 * b.vn < b.vp + b.vn → resistances rM a b = some (50000, 0))
      ∧ (a.vp + a.vn ≤ 100 * a.vp → b.vp + b.vn ≤ 100 * b.vn → d ≤ 0 → resistances rM a b = none)
      ∧ (a.vp + a.vn ≤ 100 * a.vp → b.vp + b.vn ≤ 100 * b.vn → 0 < d →
          ∃ rp rn : Nat, resistances rM a b = some (rp, rn) ∧ rp ≤ 50000 ∧ rn ≤ 50000
            ∧ (rp : Int) * (b.vn * (a.vp + a.vn)) ≤ rM * d
            ∧ (rp < 50000 → rM * d < (rp + 1 : Int) * (b.vn * (a.vp + a.vn)))
            ∧ (rn : Int) * (a.vp * (b.vp + b.vn)) ≤ rM * d
            ∧ (rn < 50000 → rM * d < (rn + 1 : Int) * (a.vp * (b.vp + b.vn))))))
  ∧ (∀ (s : State) (order : HandOver), s.imn.st = .averageB → s.imn.count = 256 →
    ∀ a, s.imn.avgA = some a →
    let b : AveragesB := ⟨Int.fdiv s.imn.sumP 256, Int.fdiv s.imn.sumN 256, Int.fdiv s.imn.sumV 256⟩
    let record : Option (Nat × Nat) → CycleResult := fun r =>
      { rp := r.map fun x => x.1, rn := r.map fun x => x.2, min := r.map fun x => min x.1 x.2
        busVolts := some (Int.fdiv b.vbus 50), disturbed := r.isNone, branch := s.imn.kind == .branch
        heaterIsolated := s.imn.isolatedA && s.imn.isolatedB, restarts := s.imn.restarts
        day := s.ttc.day, second := s.ttc.second }
    ∃ t, exec (.averagingEnd order) s = .next t
      ∧ t.imn.result = some (record (resistances s.imn.bridge a b))
      ∧ (resistances s.imn.bridge a b = none → CountsInRange s.imn →
          t.imn.verdict = s.imn.verdict ∧ t.imn.cause = s.imn.cause ∧ t.imn.faultCount = s.imn.faultCount
          ∧ t.imn.latch = s.imn.latch))

/-- A NORMAL cycle that completes outside a retest: its result record is replaced, and rows 2 to 8 of R80 judge it. Below the
warning limit with the heater's contactor closed it triggers the branch test and leaves the verdict; else GOOD, WARNING or FAULT
follow from minimum, limits and fault count, and a change raises INSULATION. Under FAULT with cause HEATER an isolated cycle counts
readings of the bus below the fault limit, two of which move the fault to the bus, and a cycle that is not isolated changes nothing
(R86). A FAULT that the bus becomes, from either, stops a live session with its converter cut, cuts the converter in STOPPING, and ends
CHECKING, whether or not the cycle answers the CHECK (R10); the heater stays locked out. `w` and `f` are the limits of R79. It holds for both orders of the hand-overs that the model keeps (log entry 4). -/
def Obligations.CompletedCycleJudgesTheBus : Prop :=
  ∀ (s : State) (order : HandOver),
    s.imn.st = .averageB → s.imn.count = 256 → s.imn.kind = .normal → s.imn.retest = none →
    ∀ a, s.imn.avgA = some a →
    let b : AveragesB := ⟨Int.fdiv s.imn.sumP 256, Int.fdiv s.imn.sumN 256, Int.fdiv s.imn.sumV 256⟩
    ∀ rp rn, resistances s.imn.bridge a b = some (rp, rn) →
    let m : Int := (min rp rn : Nat)
    let w : Int := Int.fdiv (s.imn.warnThreshold * Int.fdiv b.vbus 50 + 999) 1000
    let f : Int := Int.fdiv (s.imn.faultThreshold * Int.fdiv b.vbus 50 + 999) 1000
    let heaterFault : Bool := s.imn.verdict == .fault && s.imn.cause == .heater
    let isolated : Bool := s.imn.isolatedA && s.imn.isolatedB
    ∃ t, exec (.averagingEnd order) s = .next t
      ∧ t.imn.result = some
          { rp := some rp, rn := some rn, min := some (min rp rn), busVolts := some (Int.fdiv b.vbus 50), disturbed := false
            branch := false, heaterIsolated := isolated, restarts := s.imn.restarts, day := s.ttc.day, second := s.ttc.second }
      ∧ t.alc.quiet = false ∧ t.bhc.quiet = false
      ∧ (s.imn.latch = false → heaterFault = false → isolated = false → m < w →
          t.imn.verdict = s.imn.verdict ∧ t.imn.cause = s.imn.cause ∧ t.imn.faultCount = s.imn.faultCount
          ∧ t.imn.trigger = some ⟨m, f⟩ ∧ (t.imn.st = .isolating ∨ (t.imn.st = .settleA ∧ t.imn.kind = .branch))
          ∧ t.bhc.isolationHold = true
          ∧ (s.bhc.st = .wait ∨ s.bhc.st = .heating ∨ s.bhc.st = .quiet → t.bhc.contactor = false))
      ∧ (s.imn.latch = true ∨ heaterFault = true ∨ isolated = true ∨ w ≤ m →
          t.imn.fresh = true ∧ t.imn.stale = false)
      ∧ (s.imn.latch = true →
          t.imn.verdict = s.imn.verdict ∧ t.imn.cause = s.imn.cause ∧ t.imn.faultCount = s.imn.faultCount ∧ t.imn.latch = true)
      ∧ (s.imn.latch = false → heaterFault = false → w ≤ m →
          t.imn.verdict = .good ∧ t.imn.cause = .none ∧ t.imn.faultCount = 0 ∧ t.imn.latch = false)
      ∧ (s.imn.latch = false → heaterFault = false → isolated = true → m < w → f ≤ m →
          t.imn.verdict = .warning ∧ t.imn.cause = .bus ∧ t.imn.faultCount = 0 ∧ t.imn.latch = false)
      ∧ (s.imn.latch = false → heaterFault = false → isolated = true → m < w → m < f → s.imn.faultCount = 0 →
          t.imn.verdict = .warning ∧ t.imn.cause = .bus ∧ t.imn.faultCount = 1 ∧ t.imn.latch = false)
      ∧ (s.imn.latch = false → heaterFault = false → isolated = true → m < w → m < f → s.imn.faultCount = 1 →
          t.imn.verdict = .fault ∧ t.imn.cause = .bus ∧ t.imn.faultCount = 2 ∧ t.imn.latch = true
          ∧ (s.csc.session.isLive = true → s.imn.verdict ≠ .fault →
              t.csc.session = .stopping ∧ t.csc.enable = false ∧ t.alc.setpoint = 0
              ∧ t.csc.stopReason = some (s.csc.stopReason.getD .insulationFault))
          ∧ (s.csc.session = .stopping → s.imn.verdict ≠ .fault → t.csc.enable = false ∧ t.alc.setpoint = 0 ∧ t.alc.target = 0)
          ∧ (s.csc.session = .checking → s.csc.stopReason = none → s.imn.verdict ≠ .fault →
              t.csc.session = closedSession s ∧ t.csc.stopReason = some .insulationFault ∧ t.csc.enable = false
              ∧ t.imn.checkPending = false ∧ t.csc.checkingT = none
              ∧ waitingFrame t.slc .stop = some (partFrame .stop s.slc.ownAddr (be8 5))))
      ∧ (s.imn.latch = false → heaterFault = true → isolated = true →
          (f ≤ m → t.imn.verdict = .fault ∧ t.imn.cause = .heater ∧ t.imn.faultCount = 0 ∧ t.imn.latch = false)
          ∧ (m < f → s.imn.faultCount = 0 →
              t.imn.verdict = .fault ∧ t.imn.cause = .heater ∧ t.imn.faultCount = 1 ∧ t.imn.latch = false)
          ∧ (m < f → s.imn.faultCount = 1 →
              t.imn.verdict = .fault ∧ t.imn.cause = .bus ∧ t.imn.faultCount = 2 ∧ t.imn.latch = true
              ∧ (s.csc.session.isLive = true →
                  t.csc.session = .stopping ∧ t.csc.enable = false ∧ t.alc.setpoint = 0 ∧ t.alc.target = 0
                  ∧ t.csc.stoppingT = some 1000 ∧ t.csc.stopReason = some (s.csc.stopReason.getD .insulationFault)
                  ∧ (s.csc.stopReason = none → waitingFrame t.slc .stop = some (partFrame .stop s.slc.ownAddr (be8 5))))
              ∧ (s.csc.session = .stopping →
                  t.csc.session = .stopping ∧ t.csc.enable = false ∧ t.alc.setpoint = 0 ∧ t.alc.target = 0)
              ∧ (s.csc.session = .checking → s.csc.stopReason = none →
                  t.csc.session = closedSession s ∧ t.csc.stopReason = some .insulationFault ∧ t.imn.checkPending = false)
              ∧ (s.bhc.st = .lockedOut → t.bhc.st = .lockedOut ∧ t.bhc.lockCause = s.bhc.lockCause ∧ t.bhc.contactor = s.bhc.contactor)))
      ∧ (s.imn.latch = false → heaterFault = true → isolated = false →
          t.imn.verdict = .fault ∧ t.imn.cause = .heater ∧ t.imn.faultCount = s.imn.faultCount ∧ t.imn.latch = false)
      ∧ (t.imn.verdict ≠ s.imn.verdict ∨ t.imn.cause ≠ s.imn.cause → t.vp.events.getLsbD 6 = true)

/-- A branch pair is judged from the trigger and the branch cycle by the table of R85, and an unlock cycle answers the heater by the
table of R87; both are completed cycles whose record says their kind. It holds for both orders of the hand-overs that the model
keeps (log entry 4); a pair whose trigger sets the latch ends there by the model's reading (log entry 22). -/
def Obligations.BranchAndUnlockCyclesAreJudged : Prop :=
  ∀ (s : State) (order : HandOver),
    s.imn.st = .averageB → s.imn.count = 256 → s.imn.retest = none →
    ∀ a, s.imn.avgA = some a →
    let b : AveragesB := ⟨Int.fdiv s.imn.sumP 256, Int.fdiv s.imn.sumN 256, Int.fdiv s.imn.sumV 256⟩
    ∀ rp rn, resistances s.imn.bridge a b = some (rp, rn) →
    let m : Int := (min rp rn : Nat)
    let w : Int := Int.fdiv (s.imn.warnThreshold * Int.fdiv b.vbus 50 + 999) 1000
    let f : Int := Int.fdiv (s.imn.faultThreshold * Int.fdiv b.vbus 50 + 999) 1000
    (∀ g : Trigger, s.imn.trigger = some g → s.imn.kind = .branch → s.imn.latch = false → s.imn.faultCount < 2 →
      ∃ t, exec (.averagingEnd order) s = .next t
        ∧ t.imn.trigger = none ∧ t.imn.fresh = true ∧ t.bhc.isolationHold = false
        ∧ (w ≤ m → g.min < g.limit →
            t.imn.verdict = .fault ∧ t.imn.cause = .heater ∧ t.imn.faultCount = 0 ∧ t.bhc.st = .lockedOut
            ∧ t.bhc.lockCause = .heater ∧ t.bhc.contactor = false)
        ∧ (w ≤ m → g.limit ≤ g.min → t.imn.verdict = .warning ∧ t.imn.cause = .heater ∧ t.imn.faultCount = 0)
        ∧ (m < w → f ≤ m → g.limit ≤ g.min → t.imn.verdict = .warning ∧ t.imn.cause = .bus ∧ t.imn.faultCount = 0)
        ∧ (m < w → m < f → g.limit ≤ g.min → t.imn.verdict = .warning ∧ t.imn.cause = .bus ∧ t.imn.faultCount = 1)
        ∧ (m < w → f ≤ m → g.min < g.limit → s.imn.faultCount = 0 →
            t.imn.verdict = .warning ∧ t.imn.cause = .bus ∧ t.imn.faultCount = 0)
        ∧ (m < w → m < f → g.min < g.limit → s.imn.faultCount = 0 →
            t.imn.verdict = .fault ∧ t.imn.cause = .bus ∧ t.imn.faultCount = 2 ∧ t.imn.latch = true)
        ∧ (m < w → g.min < g.limit → s.imn.faultCount = 1 →
            t.imn.verdict = .fault ∧ t.imn.cause = .bus ∧ t.imn.faultCount = 2 ∧ t.imn.latch = true))
    ∧ (s.imn.kind = .unlock →
      ∃ t, exec (.averagingEnd order) s = .next t
        ∧ t.imn.unlockPending = false
        ∧ (w ≤ m → s.imn.verdict = .fault → s.imn.cause = .heater →
            t.imn.verdict = .good ∧ t.imn.cause = .none ∧ t.imn.faultCount = 0)
        ∧ (m < w ∨ s.imn.verdict ≠ .fault ∨ s.imn.cause ≠ .heater →
            t.imn.verdict = s.imn.verdict ∧ t.imn.cause = s.imn.cause ∧ t.imn.faultCount = s.imn.faultCount)
        ∧ t.imn.latch = s.imn.latch
        ∧ (s.bhc.waits.unlockTest = true → w ≤ m → t.bhc.lockCause = .none ∧ t.bhc.waits.unlockTest = false
            ∧ t.vp.events.getLsbD 7 = true)
        ∧ (s.bhc.waits.unlockTest = true → m < w →
            t.bhc.st = .lockedOut ∧ t.bhc.contactor = false ∧ t.bhc.waits.unlockTest = false ∧ t.vp.events.getLsbD 7 = true))

/-- A counting completion answers a pending CHECK. With GOOD or WARNING, the converter not faulty and a bank FREE, the session enters
STARTING: the lowest FREE bank opens under the next session number, the enable goes on, the allocation and ready timers start and a
REQUEST waits, which still carries the state CHECKING (log entry 14). The next number is the counter plus one, 65,535 followed by 1,
advanced past every number that a CLOSED bank holds. A converter that is ready already ends STARTING at once in TRANSFER or HOLD, and
a LINK_LOSS already 60,000 ms old in STOPPING with LINK_LOST; that the link is tested first is the model's reading (log entry 25).
With no bank FREE the policy decides. -/
def Obligations.CountingCycleStartsTheSession : Prop :=
  ∀ (s : State) (order : HandOver),
    s.imn.st = .averageB → s.imn.count = 256 → s.imn.kind = .normal → s.imn.retest = none →
    ∀ a, s.imn.avgA = some a →
    let b : AveragesB := ⟨Int.fdiv s.imn.sumP 256, Int.fdiv s.imn.sumN 256, Int.fdiv s.imn.sumV 256⟩
    ∀ rp rn, resistances s.imn.bridge a b = some (rp, rn) →
    let m : Int := (min rp rn : Nat)
    let w : Int := Int.fdiv (s.imn.warnThreshold * Int.fdiv b.vbus 50 + 999) 1000
    let f : Int := Int.fdiv (s.imn.faultThreshold * Int.fdiv b.vbus 50 + 999) 1000
    w ≤ m ∨ (s.imn.isolatedA = true ∧ s.imn.isolatedB = true ∧ (f ≤ m ∨ s.imn.faultCount = 0)) →
    s.imn.latch = false → s.imn.verdict ≠ .fault → s.imn.checkPending = true → s.imn.servesCheck = true →
    s.csc.session = .checking → s.csc.stopReason = none → openBank s = none →
    let held : Nat → Prop := fun n =>
      ∃ b, ((s.brs.banks.get b).st = .closed ∨ (s.brs.banks.get b).st = .settling) ∧ bankSession s b = n
    let candidate : Nat → Nat := fun i => (s.brs.counter + i) % 65535 + 1
    let begun : State → Prop := fun t =>
      t.csc.enable = true ∧ t.alc.timer = some 100 ∧ t.alc.setpoint = 0
      ∧ waitingFrame t.slc .request =
          some (partFrame .request s.slc.ownAddr (requestPayload (requestField s) .checking (requestSeq s)))
      ∧ (s.csc.linkAge = some 60000 →
          t.csc.session = .stopping ∧ t.csc.stopReason = some .linkLost ∧ t.csc.stoppingT = some 1000
          ∧ waitingFrame t.slc .stop = some (partFrame .stop s.slc.ownAddr (be8 4)))
      ∧ (s.csc.linkAge ≠ some 60000 → s.pins.ready = true →
          t.csc.session = (if s.csc.holds = HoldSet.empty then .transfer else .hold)
          ∧ t.csc.readyT = none ∧ t.csc.meterT = some 60000 ∧ t.csc.stopReason = none)
      ∧ (s.csc.linkAge ≠ some 60000 → s.pins.ready = false →
          t.csc.session = .starting ∧ t.csc.readyT = some 2000 ∧ t.csc.stopReason = none)
    ∃ t, exec (.averagingEnd order) s = .next t
      ∧ t.imn.verdict = (if w ≤ m then .good else .warning) ∧ t.imn.checkPending = false ∧ t.csc.checkingT = none
      ∧ (s.pins.fault = true →
          t.csc.session = closedSession s ∧ t.csc.stopReason = some .converterFault ∧ t.csc.enable = false)
      ∧ (s.pins.fault = false → ∀ bank, firstBank (fun st => st == .free) s.brs.banks = some bank → memWf s.brs.mem = true →
          s.brs.counter ≤ 65535 →
          begun t ∧ t.csc.unrecorded = false
          ∧ t.brs.banks.get bank = ⟨.openBank, 2⟩
          ∧ (∃ i, i < 8 ∧ t.brs.counter = candidate i ∧ (∀ k, k < i → held (candidate k))) ∧ ¬ held t.brs.counter
          ∧ recordWordAt t bank 0 0 = natWord t.brs.counter ∧ recordWordAt t bank 0 1 = s.brs.account
          ∧ recordWordAt t bank 0 2 = s.csc.identity ∧ recordWordAt t bank 0 5 = natWord s.ttc.day
          ∧ recordWordAt t bank 0 6 = natWord s.ttc.second ∧ recordWordAt t bank 0 7 = 0xFFFF
          ∧ recordWordAt t bank 2 0 = 0xFFFF)
      ∧ (s.pins.fault = false → (∀ b, (s.brs.banks.get b).st ≠ .free) → s.brs.proceed = false →
          t.csc.session = closedSession s ∧ t.csc.stopReason = some .noRecordSpace ∧ t.csc.enable = false
          ∧ t.fp.events.getLsbD 1 = true)
      ∧ (s.pins.fault = false → (∀ b, (s.brs.banks.get b).st ≠ .free) → s.brs.proceed = true →
          begun t ∧ t.csc.unrecorded = true
          ∧ t.brs.unrecordedSessions = min 65535 (s.brs.unrecordedSessions + 1) ∧ t.fp.events.getLsbD 1 = true)

/-- RETEST asks for a cycle and, with the FAULT latch set, turns the retest on with both counts at 0. While it is on, every completion
that began after the command counts, NORMAL or UNLOCK: two good minima in a row release the latch with GOOD or WARNING, ten
completions without a release end the retest with INSULATION and the FAULT as it stands, one marked DISTURBED leaves the good count;
no branch test is triggered, and an unlock cycle answers the heater besides. That a running cycle does not serve the new retest is
the model's reading (log entry 22); it holds for both orders of the hand-overs that the model keeps (log entry 4). -/
def Obligations.RetestRunsToItsEnd : Prop :=
  ∀ s : State,
    (s.vp.takesWrites →
      (s.imn.st ≠ .idle → s.imn.latch = true →
        exec .retest s = .next
          { s.afterWord .vp with imn := { s.imn with retestPending := true, retest := some ⟨0, 0⟩, servesRetest := false } })
      ∧ (s.imn.st ≠ .idle → s.imn.latch = false →
        exec .retest s = .next { s.afterWord .vp with imn := { s.imn with retestPending := true } })
      ∧ (s.imn.st = .idle →
        ∃ t, exec .retest s = .next t ∧ t.imn.st = .settleA ∧ t.imn.retestPending = true ∧ t.imn.servesRetest = true
          ∧ t.imn.retest = (if s.imn.latch then some ⟨0, 0⟩ else s.imn.retest) ∧ keepsAllBut [.imn, .vp] s t))
    ∧ (∀ (order : HandOver) (r : Retest), s.imn.st = .averageB → s.imn.count = 256 → s.imn.kind ≠ .branch →
      s.imn.retest = some r → s.imn.servesRetest = true → s.imn.retestPending = true →
      s.imn.latch = true → s.imn.verdict = .fault → s.imn.cause = .bus →
      ∀ a, s.imn.avgA = some a →
      let b : AveragesB := ⟨Int.fdiv s.imn.sumP 256, Int.fdiv s.imn.sumN 256, Int.fdiv s.imn.sumV 256⟩
      (∀ rp rn, resistances s.imn.bridge a b = some (rp, rn) →
        let m : Int := (min rp rn : Nat)
        let w : Int := Int.fdiv (s.imn.warnThreshold * Int.fdiv b.vbus 50 + 999) 1000
        let f : Int := Int.fdiv (s.imn.faultThreshold * Int.fdiv b.vbus 50 + 999) 1000
        let good : Nat := if Int.fdiv (5 * f) 4 ≤ m then r.good + 1 else 0
        ∃ t, exec (.averagingEnd order) s = .next t
          ∧ t.imn.trigger = none ∧ t.imn.fresh = true ∧ t.imn.stale = false
          ∧ (2 ≤ good →
              t.imn.latch = false ∧ t.imn.faultCount = 0 ∧ t.imn.retest = none ∧ t.imn.retestPending = false
              ∧ t.imn.verdict = (if w ≤ m then .good else .warning) ∧ t.imn.cause = (if w ≤ m then .none else .bus)
              ∧ t.vp.events.getLsbD 6 = true)
          ∧ (good < 2 →
              t.imn.latch = true ∧ t.imn.verdict = .fault ∧ t.imn.cause = .bus ∧ t.imn.faultCount = s.imn.faultCount)
          ∧ (good < 2 → 10 ≤ r.cycles + 1 →
              t.imn.retest = none ∧ t.imn.retestPending = false ∧ t.vp.events.getLsbD 6 = true)
          ∧ (good < 2 → r.cycles + 1 < 10 →
              t.imn.retest = some ⟨good, r.cycles + 1⟩ ∧ t.imn.retestPending = true ∧ t.imn.st = .settleA)
          ∧ (s.imn.kind = .unlock → t.imn.unlockPending = false
              ∧ (s.bhc.waits.unlockTest = true → w ≤ m → t.bhc.lockCause = .none ∧ t.bhc.waits.unlockTest = false)
              ∧ (s.bhc.waits.unlockTest = true → m < w → t.bhc.st = .lockedOut ∧ t.bhc.waits.unlockTest = false)))
      ∧ (resistances s.imn.bridge a b = none → r.good < 2 →
        ∃ t, exec (.averagingEnd order) s = .next t
          ∧ t.imn.latch = true ∧ t.imn.verdict = .fault ∧ t.imn.cause = .bus ∧ t.imn.faultCount = s.imn.faultCount
          ∧ (10 ≤ r.cycles + 1 → t.imn.retest = none ∧ t.imn.retestPending = false ∧ t.vp.events.getLsbD 6 = true)
          ∧ (r.cycles + 1 < 10 → t.imn.retest = some ⟨r.good, r.cycles + 1⟩ ∧ t.imn.st = .settleA)))

/-! ### Battery heating -/

/-- HEAT_RUN is refused with the plug present or in LOCKED_OUT; else it starts or replaces the parked run from the settings, has the
heater run accumulator cleared, makes the mode PARKED and starts the run timer. HEAT_STOP ends a run and is ignored without one. The
state evaluation of R98 follows. With the quiet window open a start from OFF is deferred, and a heater that leaves QUIET hands its
notice, which restarts the phase and closes the window; HEAT_STOP in QUIET goes to OFF by the model's reading (log entry 36), and
R98 then follows the closing. A period close takes the run's watt-hours from the heater run accumulator, and ends the run in SPENT at its allowance. -/
def Obligations.ParkedRunsStartStopAndEnd : Prop :=
  ∀ s : State,
   (s.vp.takesWrites →
    (s.pins.plug = true ∨ s.bhc.st = .lockedOut → exec .heatRun s = .next (s.afterRefusal .vp .badState 0x39))
    ∧ (s.pins.plug = false → s.bhc.st ≠ .lockedOut → s.bhc.quiet = false →
      ∃ t, exec .heatRun s = .next t
        ∧ t.bhc.run = some ⟨s.bhc.allowance, s.bhc.cap, 0⟩ ∧ t.bhc.mode = .parked ∧ t.bhc.runT = some 100
        ∧ t.bhc.spentPending = false
        ∧ t.mtr = { s.mtr with run := ⟨0, 0⟩, latches := { s.mtr.latches with run := false } }
        ∧ (s.bhc.st = .off ∨ s.bhc.st = .spent →
            if s.bhc.demand = 0 ∨ s.pins.supplyFail = true ∨ s.bhc.isolationHold = true then t.bhc.st = .off
            else t.bhc.st = .wait ∧ t.bhc.contactor = true ∧ t.bhc.waits.grantZero = true)
        ∧ (s.bhc.st = .isolated → t.bhc.st = .isolated)
        ∧ keepsAllBut [.bhc, .mtr, .vp] s t)
    ∧ (s.pins.plug = false → s.bhc.st ≠ .lockedOut → s.bhc.quiet = true → s.bhc.waits.unlockTest = false ∨ s.imn.restarts < 3 →
      ∃ t, exec .heatRun s = .next t
        ∧ t.bhc.run = some ⟨s.bhc.allowance, s.bhc.cap, 0⟩ ∧ t.bhc.mode = .parked ∧ t.bhc.runT = some 100
        ∧ t.mtr = { s.mtr with run := ⟨0, 0⟩, latches := { s.mtr.latches with run := false } }
        ∧ (s.bhc.st = .off ∨ s.bhc.st = .spent →
            t.bhc.st = .off ∧ t.bhc.contactor = s.bhc.contactor ∧ t.bhc.duty = s.bhc.duty
            ∧ keepsAllBut [.bhc, .mtr, .vp] s t)
        ∧ (s.bhc.st = .quiet → s.bhc.demand ≠ 0 → s.pins.supplyFail = false → s.bhc.waits.any = false →
            t.bhc.st = .quiet ∧ t.bhc.duty = s.bhc.duty ∧ t.bhc.contactor = s.bhc.contactor ∧ t.bhc.quiet = true
            ∧ keepsAllBut [.bhc, .mtr, .vp] s t)
        ∧ (s.bhc.st = .quiet → s.bhc.demand = 0 → s.imn.st.isAveraging = true → s.imn.restarts < 3 →
            t.bhc.st = .off ∧ t.bhc.duty = 0 ∧ t.bhc.contactor = false ∧ t.imn.restarts = s.imn.restarts + 1
            ∧ t.bhc.quiet = false ∧ t.alc.quiet = false))
    ∧ (s.bhc.run = none → exec .heatStop s = .next (s.afterWord .vp))
    ∧ (s.bhc.run.isSome = true → s.bhc.quiet = false →
      ∃ t, exec .heatStop s = .next t
        ∧ t.bhc.run = none ∧ t.bhc.mode = (if s.pins.plug then .plugged else .none) ∧ t.bhc.runT = none
        ∧ (s.pins.plug = false → s.bhc.waits.unlockTest = false → s.bhc.st = .wait ∨ s.bhc.st = .heating ∨ s.bhc.st = .quiet →
            t.bhc.st = .off ∧ t.bhc.contactor = false ∧ t.bhc.duty = 0)
        ∧ (s.bhc.st = .isolated → t.bhc.st = .isolated)
        ∧ keepsAllBut [.bhc, .vp] s t)
    ∧ (s.bhc.run.isSome = true → s.bhc.quiet = true → s.bhc.waits.unlockTest = false ∨ s.imn.restarts < 3 →
      ∃ t, exec .heatStop s = .next t
        ∧ t.bhc.run = none ∧ t.bhc.mode = (if s.pins.plug then .plugged else .none) ∧ t.bhc.runT = none
        ∧ (s.bhc.st = .quiet → s.imn.st.isAveraging = false →
            t.bhc.st = .off ∧ t.bhc.duty = 0 ∧ t.bhc.contactor = false ∧ keepsAllBut [.bhc, .vp] s t)
        ∧ (s.bhc.st = .quiet → s.imn.st.isAveraging = true → s.imn.restarts < 3 →
            t.bhc.duty = 0 ∧ t.imn.restarts = s.imn.restarts + 1
            ∧ t.imn.st = (if s.imn.st = .averageA then .settleA else .settleB) ∧ t.bhc.quiet = false ∧ t.alc.quiet = false
            ∧ (s.pins.plug = false → t.bhc.st = .off ∧ t.bhc.contactor = false)
            ∧ (s.pins.plug = true →
                if t.bhc.demand = 0 ∨ s.pins.supplyFail = true ∨ s.bhc.isolationHold = true then
                  t.bhc.st = .off ∧ t.bhc.contactor = false
                else t.bhc.st = .wait ∧ t.bhc.contactor = true ∧ t.bhc.waits.grantZero = true)
            ∧ keepsAllBut [.alc, .imn, .bhc, .vp] s t)
        ∧ (s.bhc.st = .wait → s.pins.plug = false → s.bhc.waits.unlockTest = false →
            t.bhc.st = .off ∧ t.bhc.duty = 0 ∧ t.bhc.contactor = false)))
   ∧ (∀ (r : ParkedRun) (order : HandOver), s.bhc.run = some r → s.mtr.slot = 4001 → s.bhc.st ≠ .lockedOut →
      s.bhc.overdraw < 2 → s.bhc.waits.unlockTest = false →
      ∃ t, exec (.periodClose order) s = .next t
        ∧ (t.mtr.run.wh < r.allowance → t.bhc.run = some { r with wh := t.mtr.run.wh } ∧ t.bhc.mode = s.bhc.mode)
        ∧ (r.allowance ≤ t.mtr.run.wh →
            t.bhc.run = none ∧ t.bhc.mode = (if s.pins.plug then .plugged else .none) ∧ t.bhc.runT = none
            ∧ t.bhc.duty = 0 ∧ t.bhc.contactor = false ∧ t.vp.events.getLsbD 7 = true
            ∧ (s.bhc.st ≠ .isolated → t.bhc.st = .spent)
            ∧ (s.bhc.st = .isolated → t.bhc.st = .isolated ∧ t.bhc.spentPending = true ∨ t.bhc.st = .spent)))

/-- HEATER_UNLOCK: a lockout for OVERCURRENT or OVERDRAW ends at once, one for HEATER begins the unlock test and asks the Insulation
Monitor for its cycle as soon as the contactor may close, a test that runs already is left alone, and every other state refuses.
When the request for the cycle is made, and what ISOLATED refuses, is the model's reading (log entry 21). -/
def Obligations.HeaterUnlockFollowsItsTable : Prop :=
  ∀ s : State, s.vp.takesWrites →
    (s.bhc.st = .lockedOut → s.bhc.lockCause = .overcurrent ∨ s.bhc.lockCause = .overdraw →
      ∃ t, exec .heaterUnlock s = .next t ∧ t.bhc.lockCause = .none ∧ t.vp.events.getLsbD 7 = true
        ∧ (if s.bhc.mode = .none ∨ s.bhc.demand = 0 ∨ s.pins.supplyFail = true ∨ s.bhc.quiet = true ∨ s.bhc.isolationHold = true
            then t.bhc.st = .off ∧ t.bhc.contactor = s.bhc.contactor
            else t.bhc.st = .wait ∧ t.bhc.contactor = true)
        ∧ keepsAllBut [.bhc, .vp] s t)
    ∧ (s.bhc.st = .lockedOut → s.bhc.lockCause = .heater → s.bhc.quiet = false → s.bhc.isolationHold = false →
      ∃ t, exec .heaterUnlock s = .next t ∧ t.bhc.st = .wait ∧ t.bhc.waits.unlockTest = true ∧ t.bhc.contactor = true
        ∧ t.bhc.duty = s.bhc.duty ∧ t.bhc.lockCause = .heater ∧ t.imn.unlockPending = true
        ∧ (s.imn.st = .idle → t.imn.st = .settleA ∧ t.imn.kind = .unlock)
        ∧ (s.imn.st ≠ .idle → t.imn.st = s.imn.st)
        ∧ keepsAllBut [.bhc, .imn, .vp] s t)
    ∧ (s.bhc.st = .lockedOut → s.bhc.lockCause = .heater → s.bhc.quiet = true ∨ s.bhc.isolationHold = true →
      s.bhc.contactor = false →
      ∃ t, exec .heaterUnlock s = .next t ∧ t.bhc.st = .wait ∧ t.bhc.waits.unlockTest = true ∧ t.bhc.contactor = false
        ∧ t.bhc.unlockDue = true ∧ t.imn.unlockPending = s.imn.unlockPending)
    ∧ (s.bhc.st = .wait → s.bhc.waits.unlockTest = true → exec .heaterUnlock s = .next (s.afterWord .vp))
    ∧ (s.bhc.st ≠ .lockedOut → s.bhc.st ≠ .wait ∨ s.bhc.waits.unlockTest = false →
      exec .heaterUnlock s = .next (s.afterRefusal .vp .badState 0x39))

/-- Each write of the pack temperature or of a demand setting clamps its value and recomputes the demand from temperature, target,
gain and maximum power; a pack temperature also restarts the staleness timer and removes STALE; a demand of 0 turns a working heater
off. -/
def Obligations.HeaterDemandFollowsItsInputs : Prop :=
  ∀ (s : State) (v : Word), s.vp.takesWrites →
    let demandAt : Option Int → Int → Nat → Nat → Nat := fun temp target gain maxPower =>
      match temp with
      | none => 0
      | some x => if x < target then min maxPower ((target - x).toNat * gain) else 0
    (∃ t, exec (.packTemp v) s = .next t
      ∧ t.bhc.packTemp = some (max (-400) (min 1000 v.toInt)) ∧ t.bhc.staleT = some 5000 ∧ t.bhc.waits.stale = false
      ∧ t.bhc.demand = demandAt (some (max (-400) (min 1000 v.toInt))) s.bhc.target s.bhc.gain s.bhc.maxPower
      ∧ (t.bhc.demand = 0 → s.bhc.waits.unlockTest = false → s.bhc.st = .heating ∨ s.bhc.st = .quiet →
          t.bhc.st = .off ∧ t.bhc.duty = 0 ∧ t.bhc.contactor = false)
      ∧ (s.bhc.quiet = false → keepsAllBut [.bhc, .vp] s t))
    ∧ (∃ t, exec (.demandSettingWrite .target v) s = .next t
      ∧ t.bhc.target = max (-200) (min 400 v.toInt) ∧ t.bhc.gain = s.bhc.gain ∧ t.bhc.maxPower = s.bhc.maxPower
      ∧ t.bhc.demand = demandAt s.bhc.packTemp (max (-200) (min 400 v.toInt)) s.bhc.gain s.bhc.maxPower
      ∧ (s.bhc.quiet = false → keepsAllBut [.bhc, .vp] s t))
    ∧ (∃ t, exec (.demandSettingWrite .gain v) s = .next t
      ∧ t.bhc.gain = max 1 (min 500 v.toNat) ∧ t.bhc.target = s.bhc.target ∧ t.bhc.maxPower = s.bhc.maxPower
      ∧ t.bhc.demand = demandAt s.bhc.packTemp s.bhc.target (max 1 (min 500 v.toNat)) s.bhc.maxPower
      ∧ (s.bhc.quiet = false → keepsAllBut [.bhc, .vp] s t))
    ∧ (∃ t, exec (.demandSettingWrite .maxPower v) s = .next t
      ∧ t.bhc.maxPower = min 9000 v.toNat ∧ t.bhc.target = s.bhc.target ∧ t.bhc.gain = s.bhc.gain
      ∧ t.bhc.demand = demandAt s.bhc.packTemp s.bhc.target s.bhc.gain (min 9000 v.toNat)
      ∧ (s.bhc.quiet = false → keepsAllBut [.bhc, .vp] s t))

/-- The heater's timers: a stale pack temperature adds STALE and brings a heating heater to WAIT with duty 0, each run timer expiry
renews the grant of a parked run from demand and cap and recomputes the duty in HEATING, and the isolation timer's confirmation
starts the branch cycle. In an open quiet window a grant is taken with the duty frozen, and a heater that leaves QUIET for WAIT
restarts the phase. The table of isolation gives the confirmation of the timer for ISOLATED and LOCKED_OUT; that it is handed over in
every other state of the heater too, where the table has no entry, is the model's reading (log entry 37), and so is that a
confirmation the Insulation Monitor does not wait for changes nothing there (log entry 2). -/
def Obligations.HeaterTimersAct : Prop :=
  ∀ s : State,
    (s.bhc.staleT.isSome = true → s.bhc.quiet = false →
      ∃ t, exec .stalenessTimerExpiry s = .next t ∧ t.bhc.staleT = none ∧ t.bhc.waits.stale = true
        ∧ (s.bhc.st = .heating → s.bhc.mode ≠ .none → s.bhc.demand ≠ 0 → s.pins.supplyFail = false →
            t.bhc.st = .wait ∧ t.bhc.duty = 0 ∧ t.bhc.contactor = s.bhc.contactor)
        ∧ keepsAllBut [.bhc] s t)
    ∧ (∀ r, s.bhc.run = some r → s.bhc.runT.isSome = true → s.bhc.quiet = false →
      let g := min (demandOf s.bhc) r.cap
      let full := (s.bhc.vbus * s.bhc.vbus).toNat / (250 * s.bhc.resistance)
      ∃ t, exec .runTimerExpiry s = .next t ∧ t.bhc.runT = some 100 ∧ t.bhc.demand = demandOf s.bhc
        ∧ t.bhc.grant = (if s.bhc.st = .lockedOut then s.bhc.grant else g)
        ∧ (s.bhc.st ≠ .lockedOut → s.bhc.st ≠ .off → t.bhc.waits.grantZero = (g == 0))
        ∧ (s.bhc.st = .heating → s.bhc.mode ≠ .none → 0 < g → s.pins.supplyFail = false → s.bhc.waits.onlyGrantZero = true →
            t.bhc.st = .heating
            ∧ t.bhc.duty = (if s.bhc.vbus < 2500 then 0 else min 1024 ((g * 1024 + (full - 1)) / full)))
        ∧ (s.bhc.st = .heating → g = 0 → t.bhc.duty = 0 ∧ t.bhc.dutyGrant = 0)
        ∧ keepsAllBut [.bhc] s t)
    ∧ (s.bhc.staleT.isSome = true → s.bhc.quiet = true → s.bhc.st = .quiet → s.bhc.mode ≠ .none → s.bhc.demand ≠ 0 →
      s.pins.supplyFail = false → s.bhc.waits.unlockTest = false → s.imn.st.isAveraging = true → s.imn.restarts < 3 →
      ∃ t, exec .stalenessTimerExpiry s = .next t ∧ t.bhc.staleT = none ∧ t.bhc.waits.stale = true ∧ t.bhc.st = .wait
        ∧ t.bhc.duty = 0 ∧ t.bhc.contactor = s.bhc.contactor ∧ t.bhc.quiet = false ∧ t.imn.restarts = s.imn.restarts + 1
        ∧ keepsAllBut [.alc, .imn, .bhc] s t)
    ∧ (∀ r, s.bhc.run = some r → s.bhc.runT.isSome = true → s.bhc.quiet = true → s.bhc.st = .quiet → s.bhc.mode ≠ .none →
      s.pins.supplyFail = false → s.bhc.waits.any = false →
      (0 < min (demandOf s.bhc) r.cap →
        exec .runTimerExpiry s = .next
          { s with bhc := { s.bhc with
              runT := some 100, demand := demandOf s.bhc, grant := min (demandOf s.bhc) r.cap } })
      ∧ (0 < demandOf s.bhc → r.cap = 0 → s.imn.st.isAveraging = true → s.imn.restarts < 3 →
        ∃ t, exec .runTimerExpiry s = .next t ∧ t.bhc.st = .wait ∧ t.bhc.grant = 0 ∧ t.bhc.duty = 0
          ∧ t.bhc.contactor = s.bhc.contactor ∧ t.bhc.quiet = false ∧ t.imn.restarts = s.imn.restarts + 1))
    ∧ (s.bhc.isolationT.isSome = true → s.imn.st ≠ .isolating →
      exec .isolationTimerExpiry s = .next { s with bhc := { s.bhc with isolationT := none } })
    ∧ (s.bhc.isolationT.isSome = true → s.imn.st = .isolating →
      ∃ t, exec .isolationTimerExpiry s = .next t ∧ t.bhc = { s.bhc with isolationT := none }
        ∧ t.imn.st = .settleA ∧ t.imn.kind = .branch ∧ t.imn.restarts = 0 ∧ t.imn.trigger = s.imn.trigger
        ∧ t.imn.settleT = some s.imn.settleMs ∧ t.imn.spacingT = some (s.imn.spacingS * 1000)
        ∧ keepsAllBut [.bhc, .imn] s t)

/-- The heater's lockouts for its own current and power. A slot whose heater current is above the limit, while the link is up, locks
the heater out with cause OVERCURRENT; at or below the limit a slot leaves the heater alone. A period whose heater power is above
6/5 of the peak duty grant and 200 W raises the overdraw count, any other tested period clears it, and the third in a row locks the
heater out with cause OVERDRAW; a quiet window that closes before the test may raise the peak first. A lockout opens the contactor, ends a parked run, keeps a cause held before, is recorded while a bank
is OPEN and raises HEATER. Whether the mode setting arrives is the command's operand, and the order of the hand-overs one of the two
the model keeps (log entries 4 and 29). -/
def Obligations.LockoutsFollowTheirTests : Prop :=
  ∀ s : State,
    (∀ (order : HandOver) (intact : Bool) (x : SampleSet) (rest : List SampleSet), 1 < s.mtr.slot → s.mtr.slot ≤ 4000 →
      s.asm.substituting = false → s.ble.linkUp = true → s.ble.store = x :: rest →
      let ihtr : Int := max (-32767) (min 32767
        (Int.fdiv (((x.raw.get 5).toInt - s.asm.offset.get 5) * s.asm.gain.get 5 + 16384) 32768))
      ∃ t, exec (.metrologySlot order intact) s = .next t
        ∧ (x.valid.getLsbD 5 = false ∨ ihtr ≤ s.bhc.currentLimit → t.bhc = s.bhc)
        ∧ (x.valid.getLsbD 5 = true → (s.bhc.currentLimit : Int) < ihtr →
            t.bhc.st = .lockedOut ∧ t.bhc.contactor = false ∧ t.bhc.duty = 0 ∧ t.bhc.dutyGrant = 0 ∧ t.bhc.grant = 0
            ∧ t.bhc.lockCause = (if s.bhc.lockCause = .none then .overcurrent else s.bhc.lockCause)
            ∧ t.bhc.waits.unlockTest = false ∧ t.bhc.overdraw = 0 ∧ t.bhc.spentPending = false ∧ t.bhc.run = none
            ∧ t.bhc.mode = (if s.bhc.run = none then s.bhc.mode else if s.pins.plug then .plugged else .none)
            ∧ t.vp.events.getLsbD 7 = true
            ∧ (s.bhc.lockCause = .none → memWf s.brs.mem = true → ∀ b, openBank s = some b → (s.brs.banks.get b).next < 64 →
                recordWordAt t b (s.brs.banks.get b).next 0 = natWord (8192 + 256 * secondHigh s.ttc.second + 6)
                ∧ recordWordAt t b (s.brs.banks.get b).next 3 = 2
                ∧ (t.brs.banks.get b).next = (s.brs.banks.get b).next + 1)))
    ∧ (∀ order : HandOver, s.mtr.slot = 4001 → order = .listed ∨ s.bhc.quiet = false ∧ s.bhc.st ≠ .quiet →
      let heat : Int := if s.mtr.sums.n = 0 ∨ s.mtr.sums.ihtr / s.mtr.sums.n < s.mtr.latches.creep then 0 else s.mtr.sums.htr
      let tooMuch : Prop := (s.bhc.peakGrant * 6 / 5 + 200 : Nat) < Int.fdiv heat 100000000
      ∃ t, exec (.periodClose order) s = .next t
        ∧ (s.mtr.counts.substituted = false → 0 < s.mtr.sums.n →
            (tooMuch → 2 ≤ s.bhc.overdraw →
              t.bhc.st = .lockedOut ∧ t.bhc.contactor = false ∧ t.bhc.duty = 0 ∧ t.bhc.grant = 0
              ∧ t.bhc.run = none ∧ t.vp.events.getLsbD 7 = true
              ∧ (s.bhc.waits.unlockTest = false → t.bhc.overdraw = 0
                  ∧ t.bhc.lockCause = (if s.bhc.lockCause = .none then .overdraw else s.bhc.lockCause)))
            ∧ (s.bhc.waits.unlockTest = false → tooMuch → s.bhc.overdraw < 2 → t.bhc.overdraw = s.bhc.overdraw + 1)
            ∧ (s.bhc.waits.unlockTest = false → ¬ tooMuch → t.bhc.overdraw = 0))
        ∧ (s.mtr.counts.substituted = true ∨ s.mtr.sums.n = 0 → s.bhc.waits.unlockTest = false →
            t.bhc.overdraw = s.bhc.overdraw))

/-! ### Sense die, barrier and slots -/

/-- The sense die at its start and at each set time: modes apply at the start of the set, a channel is valid when it has been ACTIVE
through its recovery, the raw value is the floored mean of four saturated conversions, and the frame carries sequence, raw values,
valid mask and their CRC-8; the sequence rises modulo 16. On the main die a barrier frame that fails its check changes nothing; an
intact one is compared in sequence, the missing count modulo 16 added to the barrier gaps, its sequence kept, and its set placed at
the tail of the store, or dropped with one slip-drop when four sets are held. The order of the bits in the check (log entry 12), and
the modes and the frame the sense die holds right after its start (log entry 10), are the model's choice. -/
def Obligations.SetsCrossTheBarrier : Prop :=
  ∀ s : State,
    exec .senseDieStart s = .next
      { s with sfe := ⟨0, Oct.fill .active, Oct.fill 8, Oct.fill .active, none⟩ }
    ∧ (∀ conv : Oct Conversions,
      ∃ t, exec (.setTime conv) s = .next t
        ∧ t.sfe.seq = s.sfe.seq + 1 ∧ t.sfe.modes = s.sfe.received ∧ t.sfe.received = s.sfe.received
        ∧ (∀ c, t.sfe.recovery.get c =
            if s.sfe.received.get c ≠ .active then 0
            else match s.sfe.modes.get c with
              | .active => s.sfe.recovery.get c - 1
              | .light => 7
              | .deep => 399)
        ∧ (∀ f, t.sfe.sent = some f →
            f.seq = s.sfe.seq ∧ f.check = crc8 f.seq f.raw f.valid
            ∧ ∀ c, (f.valid.getLsbD c.val = true ↔
                  s.sfe.received.get c = .active ∧ s.sfe.modes.get c = .active ∧ s.sfe.recovery.get c = 0)
                ∧ (f.raw.get c).toInt =
                  Int.fdiv (max (-32768) (min 32767 (conv.get c).a) + max (-32768) (min 32767 (conv.get c).b)
                    + max (-32768) (min 32767 (conv.get c).c) + max (-32768) (min 32767 (conv.get c).d)) 4)
        ∧ t.sfe.sent.isSome = true
        ∧ keepsAllBut [.sfe] s t)
    ∧ ∀ f : BarrierFrame,
      let missing : Nat := match s.ble.lastSeq with
        | none => 0
        | some l => (f.seq.toNat + 31 - l.toNat) % 16
      (f.check ≠ crc8 f.seq f.raw f.valid → exec (.barrierFrameArrival f) s = .next s)
      ∧ (f.check = crc8 f.seq f.raw f.valid → s.ble.store.length < 4 →
        exec (.barrierFrameArrival f) s = .next
          { s with ble := { s.ble with
              lastSeq := some f.seq
              newGaps := s.ble.newGaps + missing
              barrierGaps := (s.ble.barrierGaps + missing) % 65536
              store := s.ble.store ++ [⟨f.raw, f.valid⟩] } })
      ∧ (f.check = crc8 f.seq f.raw f.valid → 4 ≤ s.ble.store.length →
        exec (.barrierFrameArrival f) s = .next
          { s with ble := { s.ble with
              lastSeq := some f.seq
              newGaps := s.ble.newGaps + missing
              barrierGaps := (s.ble.barrierGaps + missing) % 65536
              newDrops := s.ble.newDrops + 1
              slipDrops := (s.ble.slipDrops + 1) % 65536 } })

/-- The first slot of a period: a marked commit takes effect, the masks written come into force, band and price follow, the meter
takes its latches and hands the session set to the session of the OPEN bank, BAND_WAIT follows the traction mask, and an ARMED
substitution runs: every generator is loaded from its record, and the slot is substituted already. The sums and counts begin from zero
with the values of the slot. The band of a second of day is found in the table as R148 gives it. The order of the hand-overs within the slot
is the model's choice (log entries 4 and 5), and so is that the latches are taken before the band moves the session. -/
def Obligations.FirstSlotStartsThePeriod : Prop :=
  (∀ (table : List TariffEntry) (second : Nat), tableOk table = true →
    (table = [] → bandAt table second = 0)
    ∧ (∀ e ∈ table, e.start ≤ second → (∀ e' ∈ table, e'.start ≤ second → e'.start ≤ e.start) → bandAt table second = e.band)
    ∧ (∀ e ∈ table, (∀ e' ∈ table, second < e'.start) → (∀ e' ∈ table, e'.start ≤ e.start) → bandAt table second = e.band))
  ∧ ∀ (s : State) (order : HandOver) (intact : Bool), s.mtr.slot = 1 → (∀ b, 2 ≤ (s.brs.banks.get b).next) →
    let table := if s.ttc.commitMark then s.ttc.pendingTable else s.ttc.table
    let prices := if s.ttc.commitMark then s.ttc.pendingPrices else s.ttc.prices
    let band : Band := if s.ttc.source = .none then 0 else bandAt table s.ttc.second
    let latch : Option Nat := if s.csc.session.isOpen then openSession s else none
    let run : Asm := if s.asm.subst = .armed then
      { s.asm with
        subst := .running, substituting := true, generators := Oct.ofFn fun c => (s.asm.substConfig.get c).atStart }
      else s.asm
    ∃ t, exec (.metrologySlot order intact) s = .next t
      ∧ t.mtr.slot = 2
      ∧ t.ttc = { s.ttc with
          table := table, prices := prices
          version := if s.ttc.commitMark then (s.ttc.version + 1) % 256 else s.ttc.version
          commitMark := false
          tractionMask := s.ttc.tractionWritten, heatingMask := s.ttc.heatingWritten
          band := band, price := prices.get band, timeUnset := s.ttc.source == .none
          startDay := s.ttc.day, startSecond := s.ttc.second }
      ∧ t.mtr.latches =
          { day := s.ttc.day, second := s.ttc.second, timeUnset := s.ttc.source == .none, band := band
            price := prices.get band, creep := s.mtr.creep, session := latch, run := s.bhc.run.isSome
            stopping := s.csc.session == .stopping }
      ∧ t.mtr.sess = (if latch = none ∨ latch = s.mtr.sess.owner then s.mtr.sess else SessionSet.clear latch)
      ∧ t.mtr.counts.fresh + t.mtr.counts.slipRepeats + t.mtr.counts.gaps = 1
      ∧ t.mtr.run = s.mtr.run ∧ t.mtr.verif = s.mtr.verif ∧ t.mtr.last = s.mtr.last
      ∧ (s.csc.session.keepsHolds = true → t.csc.holds.bandWait = !s.ttc.tractionWritten.getLsbD band.val)
      ∧ (s.ttc.commitMark = true → t.fp.events.getLsbD 2 = true)
      ∧ t.asm.subst = (if s.asm.subst = .armed then .running else s.asm.subst) ∧ t.asm.substituting = run.substituting
      ∧ t.mtr.counts.substituted = run.substituting
      ∧ t.mtr.sums = run.sumsOfSlot s.ble.setOfSlot ⟨0, 0, 0, 0, 0, 0, 0, 0, 0⟩
      ∧ (∀ c, t.asm.generators.get c = if run.substituting then (run.substConfig.get c).oneSlotOn (run.generators.get c)
          else s.asm.generators.get c)

/-- A slot within a period uses the oldest set, the previous set again, or none, and is counted by its kind. A channel has its
pattern's value while a substitution runs and it is configured, in a slot of every kind, else its corrected value where the set marks
it valid. IAC joins the two sensors, or is that of the one that may be used, with SINGLE. A slot in which VAC, IAC, VBUS, IOBC and IHTR
all have a value adds its products to the period sums, and any other adds nothing. The disagreement monitor tests a slot in which both
sensors have a value and neither is blocked: DISAGREE sets at the 64th test in a row above 250 counts, with its event, and clears at
the 4,000th at or below; a slot that is not tested leaves both runs. Each generator of a running substitution is one slot on at the
end, and the period is flagged. The barrier link goes DOWN at the 32nd gap slot in a row and UP at the first fresh slot after:
LINK_LOSS is added with its age at 0 or removed, the last sequence number goes with the link, and the port's LINK event is raised.
Whether the mode setting arrives is the command's operand, and the order of the hand-overs one of the two the model keeps (log entries
4 and 29); that the modes sent are those in force at the end of the slot, and that the period takes DISAGREE as it stands after the
slot's test, is the model's reading (log entry 23). -/
def Obligations.SlotAddsToThePeriodSumsAndMovesTheLink : Prop :=
  ∀ (s : State) (order : HandOver) (intact : Bool), 1 < s.mtr.slot → s.mtr.slot ≤ 4000 →
    let used : Option SampleSet := s.ble.setOfSlot
    let iac : Option Int × Bool := s.asm.iacOfSlot used
    let tested : Prop :=
      s.asm.block = .none ∧ (s.asm.valueOfSlot used 1).isSome = true ∧ (s.asm.valueOfSlot used 2).isSome = true
    let apart : Prop := 250 < ((s.asm.valueOfSlot used 1).getD 0 - (s.asm.valueOfSlot used 2).getD 0).natAbs
    let fresh : Bool := !s.ble.store.isEmpty
    ∃ t, exec (.metrologySlot order intact) s = .next t
      ∧ t.mtr.slot = s.mtr.slot + 1 ∧ t.ble.newDrops = 0 ∧ t.ble.newGaps = 0 ∧ t.ble.store = s.ble.store.tail
      ∧ t.mtr.counts.fresh = s.mtr.counts.fresh + (if fresh then 1 else 0)
      ∧ t.mtr.counts.slipRepeats = s.mtr.counts.slipRepeats + (if !fresh && s.ble.prevKind == .fresh then 1 else 0)
      ∧ t.mtr.counts.gaps = s.mtr.counts.gaps + (if !fresh && s.ble.prevKind != .fresh then 1 else 0)
      ∧ t.mtr.counts.slipDrops = s.mtr.counts.slipDrops + s.ble.newDrops
      ∧ t.mtr.counts.barrierGaps = s.mtr.counts.barrierGaps + s.ble.newGaps
      ∧ t.mtr.sums = s.asm.sumsOfSlot used s.mtr.sums
      ∧ t.asm.single = iac.2 ∧ t.mtr.counts.single = (s.mtr.counts.single || iac.2)
      ∧ (¬ tested → t.asm.disagree = s.asm.disagree ∧ t.asm.disagreeRun = s.asm.disagreeRun ∧ t.asm.agreeRun = s.asm.agreeRun)
      ∧ (tested → apart → s.asm.disagree = false →
          t.asm.disagree = decide (63 ≤ s.asm.disagreeRun) ∧ t.asm.disagreeRun = min 64 (s.asm.disagreeRun + 1)
          ∧ t.asm.agreeRun = (if 63 ≤ s.asm.disagreeRun then 0 else s.asm.agreeRun))
      ∧ (tested → apart → s.asm.disagree = true →
          t.asm.disagree = true ∧ t.asm.disagreeRun = s.asm.disagreeRun ∧ t.asm.agreeRun = 0)
      ∧ (tested → ¬ apart → s.asm.disagree = false →
          t.asm.disagree = false ∧ t.asm.disagreeRun = 0 ∧ t.asm.agreeRun = s.asm.agreeRun)
      ∧ (tested → ¬ apart → s.asm.disagree = true →
          t.asm.disagree = decide (s.asm.agreeRun < 3999) ∧ t.asm.agreeRun = min 4000 (s.asm.agreeRun + 1)
          ∧ t.asm.disagreeRun = (if 3999 ≤ s.asm.agreeRun then 0 else s.asm.disagreeRun))
      ∧ t.vp.events.getLsbD 9 = (s.vp.events.getLsbD 9 || (t.asm.disagree && !s.asm.disagree))
      ∧ t.mtr.counts.disagree = (s.mtr.counts.disagree || t.asm.disagree)
      ∧ t.mtr.counts.substituted = (s.mtr.counts.substituted || s.asm.substituting)
      ∧ t.asm.subst = s.asm.subst ∧ t.asm.substituting = s.asm.substituting ∧ t.asm.substConfig = s.asm.substConfig
      ∧ (∀ c, t.asm.generators.get c = if s.asm.substituting then (s.asm.substConfig.get c).oneSlotOn (s.asm.generators.get c)
          else s.asm.generators.get c)
      ∧ t.mtr.latches = s.mtr.latches ∧ t.mtr.sess = s.mtr.sess ∧ t.mtr.last = s.mtr.last ∧ t.ttc = s.ttc ∧ t.alc.vrms = s.alc.vrms
      ∧ t.sfe.received = (if intact then Oct.ofFn fun c => effectiveMode t c else s.sfe.received)
      ∧ (s.ble.linkUp = true → fresh = false → s.ble.prevKind ≠ .fresh → s.ble.gapRun = 31 →
          t.ble.linkUp = false ∧ t.ble.lastSeq = none ∧ t.ble.gapRun = 32 ∧ t.vp.events.getLsbD 8 = true
          ∧ (s.csc.session.keepsHolds = true → t.csc.linkAge = some 0 ∧ t.csc.holds = { s.csc.holds with linkLoss := true }))
      ∧ (s.ble.linkUp = false → fresh = true →
          t.ble.linkUp = true ∧ t.ble.gapRun = 0 ∧ t.vp.events.getLsbD 8 = true ∧ t.csc.linkAge = none
          ∧ (s.csc.session.keepsHolds = true → t.csc.holds = { s.csc.holds with linkLoss := false }))
      ∧ (s.ble.linkUp = true → fresh = true → t.ble.linkUp = true ∧ t.ble.gapRun = 0 ∧ t.csc.linkAge = s.csc.linkAge)

/-! ### Metering, tariff and records -/

/-- The close of a period, once its 4,000 slots are taken: creep, averages and route as the chapter gives them, the set of the route
credited with whole watt-hours carried and the remainder kept (the session set by band and with its cost ticks, the verification set,
or the unrecorded set), every other set left alone, the heater run accumulator fed where the run latch is set and a run is still
present, the result issued, the clock one second on, and the allocator's voltages taken from a period that is not substituted. Before the 4,000th slot the command changes nothing by the
model's choice (log entry 2), and it holds for both orders of the hand-overs that the model keeps (log entry 4). -/
def Obligations.PeriodCloseIssuesItsResult : Prop :=
  ∀ (s : State) (order : HandOver),
    (s.mtr.slot ≠ 4001 → exec (.periodClose order) s = .next s)
    ∧ (s.mtr.slot = 4001 →
      let x := s.mtr.sums
      let energy : Int → Nat → Int := fun e total =>
        if x.n = 0 ∨ total / x.n < s.mtr.latches.creep then 0 else e
      ∃ t, exec (.periodClose order) s = .next t
        ∧ t.mtr.slot = 1
        ∧ t.ttc = { s.ttc with
            second := if s.ttc.second = 86399 then 0 else s.ttc.second + 1
            day := if s.ttc.second = 86399 then (if s.ttc.day = 65535 then 0 else s.ttc.day + 1) else s.ttc.day }
        ∧ t.mtr.last.isSome = true
        ∧ (∀ p, t.mtr.last = some p →
            p.pAc = energy x.ac x.iac ∧ p.pObc = energy x.obc x.iobc ∧ p.pHtr = energy x.htr x.ihtr
            ∧ p.n = x.n ∧ (x.n = 0 → p.vrms = 0 ∧ p.vbus = 0 ∧ p.meanIobc = 0)
            ∧ (0 < x.n → p.vrms * p.vrms ≤ x.vacSq / x.n ∧ x.vacSq / x.n < (p.vrms + 1) * (p.vrms + 1)
                ∧ p.vbus = Int.fdiv x.vbus x.n ∧ p.meanIobc = x.iobc / x.n)
            ∧ p.day = s.mtr.latches.day ∧ p.second = s.mtr.latches.second ∧ p.band = s.mtr.latches.band
            ∧ p.stopping = s.mtr.latches.stopping
            ∧ p.route = (if s.mtr.counts.substituted then .verification
                else match s.mtr.latches.session with
                  | some n => .session n
                  | none => if 0 < p.pAc then .unrecorded else .none)
            ∧ (s.mtr.counts.substituted = false → t.alc.vrms = p.vrms ∧ t.alc.vbus = p.vbus ∧ t.bhc.vbus = p.vbus)
            ∧ (s.mtr.counts.substituted = true → t.alc.vrms = s.alc.vrms ∧ t.alc.vbus = s.alc.vbus ∧ t.bhc.vbus = s.bhc.vbus)
            ∧ (∀ n, p.route = .session n →
                s.mtr.sess.net.fedTo t.mtr.sess.net p.pAc p.carried.imp p.carried.exp
                ∧ (s.mtr.sess.traction.get p.band).fedTo (t.mtr.sess.traction.get p.band) p.traction p.carried.traction
                ∧ (s.mtr.sess.heating.get p.band).fedTo (t.mtr.sess.heating.get p.band) p.heating p.carried.heating
                ∧ (∀ b, b ≠ p.band → t.mtr.sess.traction.get b = s.mtr.sess.traction.get b
                    ∧ t.mtr.sess.heating.get b = s.mtr.sess.heating.get b)
                ∧ s.mtr.sess.dcOut.fedTo t.mtr.sess.dcOut p.pObc.toNat p.carried.dcOut
                ∧ s.mtr.sess.heaterDc.fedTo t.mtr.sess.heaterDc p.pHtr.toNat p.carried.heaterDc
                ∧ t.mtr.sess.tractionTicks =
                    (s.mtr.sess.tractionTicks + p.carried.traction * s.mtr.latches.price) % 2 ^ 48
                ∧ t.mtr.sess.heatingTicks =
                    (s.mtr.sess.heatingTicks + p.carried.heating * s.mtr.latches.price) % 2 ^ 48
                ∧ t.mtr.sess.owner = s.mtr.sess.owner ∧ p.carried.unrecorded = 0
                ∧ t.mtr.verif = s.mtr.verif ∧ t.mtr.unrecordedRem = s.mtr.unrecordedRem)
            ∧ (p.route = .unrecorded →
                (t.mtr.unrecordedRem : Int) + 360000000000 * p.carried.unrecorded = s.mtr.unrecordedRem + p.pAc
                ∧ t.mtr.unrecordedRem < 360000000000
                ∧ t.brs.unrecordedImport = (s.brs.unrecordedImport + p.carried.unrecorded) % 2 ^ 32
                ∧ t.mtr.sess = s.mtr.sess ∧ t.mtr.verif = s.mtr.verif)
            ∧ (p.route = .verification →
                s.mtr.verif.net.fedTo t.mtr.verif.net p.pAc p.carried.imp p.carried.exp
                ∧ s.mtr.verif.traction.fedTo t.mtr.verif.traction p.traction p.carried.traction
                ∧ s.mtr.verif.heating.fedTo t.mtr.verif.heating p.heating p.carried.heating
                ∧ s.mtr.verif.dcOut.fedTo t.mtr.verif.dcOut p.pObc.toNat p.carried.dcOut
                ∧ s.mtr.verif.heaterDc.fedTo t.mtr.verif.heaterDc p.pHtr.toNat p.carried.heaterDc
                ∧ t.mtr.sess = s.mtr.sess ∧ t.mtr.unrecordedRem = s.mtr.unrecordedRem
                ∧ (AccInRange s.mtr.run → t.mtr.run = s.mtr.run))
            ∧ (p.route = .none →
                t.mtr.sess = s.mtr.sess ∧ t.mtr.verif = s.mtr.verif ∧ t.mtr.unrecordedRem = s.mtr.unrecordedRem)
            ∧ s.mtr.run.fedTo t.mtr.run
                (if s.mtr.counts.substituted = false ∧ s.mtr.latches.run = true ∧ s.bhc.run ≠ none then p.pHtr.toNat else 0)
                p.carried.run
            ∧ p.runWh = t.mtr.run.wh))

/-- The heating and traction shares of every closed period follow R131: both non-negative, they add up exactly to the period's AC
energy when that is positive, and both are zero when it is not. -/
def Obligations.HeatingAndTractionSharesAddUp : Prop :=
  ∀ (s : State) (order : HandOver), s.mtr.slot = 4001 →
    ∃ t, exec (.periodClose order) s = .next t
      ∧ ∃ p, t.mtr.last = some p
        ∧ (0 < p.pAc → 0 < p.pObc → 0 < p.pHtr → p.pObc ≤ p.pHtr → (p.heating : Int) = p.pAc)
        ∧ (0 < p.pAc → 0 < p.pObc → 0 < p.pHtr → p.pHtr < p.pObc → (p.heating : Int) = Int.fdiv (p.pAc * p.pHtr) p.pObc)
        ∧ (p.pAc ≤ 0 ∨ p.pObc ≤ 0 ∨ p.pHtr ≤ 0 → p.heating = 0)
        ∧ (0 < p.pAc → (p.traction : Int) + p.heating = p.pAc)
        ∧ (p.pAc ≤ 0 → p.traction = 0 ∧ p.heating = 0)

/-- The settings of channels, calibration and substitution are stored as clamped: calibration is refused while a bank is OPEN or a
substitution is active, the substitution items while one is active, a changed IAC_BLOCK clears the disagreement state, and a changed
rating bounds a pending REQUEST again. When a REQUEST is bounded again is the model's reading (log entry 15). -/
def Obligations.SettingsAreStoredAsClamped : Prop :=
  ∀ (s : State) (c : Fin 8) (v : Word),
    (s.fp.takesWrites →
      (openBank s ≠ none ∨ s.asm.subst ≠ .off →
        exec (.calibrationWrite .offset c v) s = .next (s.afterRefusal .fp .badState (BitVec.ofNat 8 (0x30 + c.val)))
        ∧ exec (.calibrationWrite .gain c v) s = .next (s.afterRefusal .fp .badState (BitVec.ofNat 8 (0x38 + c.val))))
      ∧ (openBank s = none → s.asm.subst = .off →
        exec (.calibrationWrite .offset c v) s = .next
          { s.afterWord .fp with asm := { s.asm with offset := s.asm.offset.set c (max (-2048) (min 2047 v.toInt)) } }
        ∧ exec (.calibrationWrite .gain c v) s = .next
          { s.afterWord .fp with asm := { s.asm with gain := s.asm.gain.set c (max 28000 (min 37000 v.toNat)) } })
      ∧ (s.asm.subst ≠ .off →
        exec (.substConfigWrite .select v) s = .next (s.afterRefusal .fp .badState 0x40)
        ∧ exec (.substConfigWrite .pattern v) s = .next (s.afterRefusal .fp .badState 0x41)
        ∧ exec (.substConfigWrite .value1 v) s = .next (s.afterRefusal .fp .badState 0x42)
        ∧ exec (.substConfigWrite .value2 v) s = .next (s.afterRefusal .fp .badState 0x43))
      ∧ (s.asm.subst = .off →
        (∃ t, exec (.substConfigWrite .select v) s = .next t ∧ t.asm.substSelect.val = min 7 v.toNat
          ∧ t.asm.substConfig = s.asm.substConfig ∧ keepsAllBut [.asm, .fp] s t)
        ∧ (∃ t, exec (.substConfigWrite .pattern v) s = .next t
          ∧ ((t.asm.substConfig.get s.asm.substSelect).pattern.code = min 4 v.toNat)
          ∧ (t.asm.substConfig.get s.asm.substSelect).value1 = (s.asm.substConfig.get s.asm.substSelect).value1
          ∧ (∀ d, d ≠ s.asm.substSelect → t.asm.substConfig.get d = s.asm.substConfig.get d) ∧ keepsAllBut [.asm, .fp] s t)
        ∧ (∃ t, exec (.substConfigWrite .value1 v) s = .next t
          ∧ t.asm.substConfig.get s.asm.substSelect = { s.asm.substConfig.get s.asm.substSelect with value1 := v }
          ∧ keepsAllBut [.asm, .fp] s t)
        ∧ (∃ t, exec (.substConfigWrite .value2 v) s = .next t
          ∧ t.asm.substConfig.get s.asm.substSelect = { s.asm.substConfig.get s.asm.substSelect with value2 := v }
          ∧ keepsAllBut [.asm, .fp] s t)))
    ∧ (s.vp.takesWrites →
      (∃ t, exec (.chStandby c v) s = .next t ∧ (t.asm.standby.get c).code = min 2 v.toNat
        ∧ (∀ d, d ≠ c → t.asm.standby.get d = s.asm.standby.get d) ∧ t.sfe = s.sfe ∧ keepsAllBut [.asm, .vp] s t)
      ∧ (∃ t, exec (.iacBlock v) s = .next t ∧ t.asm.block.code = min 2 v.toNat
        ∧ (s.asm.block.code = min 2 v.toNat → t.asm = s.asm)
        ∧ (s.asm.block.code ≠ min 2 v.toNat →
            t.asm.disagree = false ∧ t.asm.disagreeRun = 0 ∧ t.asm.agreeRun = 0)
        ∧ keepsAllBut [.asm, .vp] s t)
      ∧ (s.alc.rating = max 60 (min 400 v.toNat) → exec (.obcAcRating v) s = .next (s.afterWord .vp))
      ∧ (s.alc.rating ≠ max 60 (min 400 v.toNat) → s.slc.table.request.frame = none →
          exec (.obcAcRating v) s = .next { s.afterWord .vp with alc := { s.alc with rating := max 60 (min 400 v.toNat) } })
      ∧ (s.alc.rating ≠ max 60 (min 400 v.toNat) → s.slc.table.request.frame ≠ none →
          ∃ t, exec (.obcAcRating v) s = .next t ∧ t.alc = { s.alc with rating := max 60 (min 400 v.toNat) }
            ∧ waitingFrame t.slc .request = some (partFrame .request s.slc.ownAddr (requestPayload
                (min (requestField { s with alc := { s.alc with rating := 65535 } }) (max 60 (min 400 v.toNat)))
                s.csc.session (requestSeq s)))
            ∧ t.csc.requestT = some 1000 ∧ keepsAllBut [.alc, .csc, .slc, .vp] s t))

/-- SUBST_START arms a substitution when no session attempt, open bank or working heater stands in its way, clears the verification
set and gives the heater its wait reason; SUBST_STOP ends an armed one at once with SUBST_DONE and CANCELLED, lets a running one end
with its period, and is ignored otherwise. A period close with the substitution ENDING turns it OFF, with SUBST_DONE and the mark
it was ended with, and READY and ENDED then check the start of a session; no other period close changes it. -/
def Obligations.SubstitutionStartsAndStops : Prop :=
  ∀ s : State,
   (s.fp.takesWrites →
    let may : Prop := s.asm.subst = .off ∧ (∃ c, (s.asm.substConfig.get c).pattern ≠ .none)
      ∧ (s.csc.session = .unplugged ∨ s.csc.session = .linking ∨ s.csc.session = .ready ∨ s.csc.session = .ended)
      ∧ openBank s = none ∧ (s.bhc.st = .off ∨ s.bhc.st = .spent ∨ s.bhc.st = .lockedOut)
    (¬ may → exec .substStart s = .next (s.afterRefusal .fp .badState 0x44))
    ∧ (may →
      ∃ t, exec .substStart s = .next t
        ∧ t.asm = { s.asm with subst := .armed, substituting := false, cancelled := false }
        ∧ t.mtr = { s.mtr with verif := VerifSet.clear }
        ∧ t.bhc.waits.substitution = true ∧ t.bhc.duty = s.bhc.duty
        ∧ (s.bhc.quiet = false → keepsAllBut [.asm, .mtr, .bhc, .fp] s t))
    ∧ (s.asm.subst = .armed →
      ∃ t, exec .substStop s = .next t ∧ t.asm.subst = .off ∧ t.asm.substituting = false ∧ t.asm.doneCancelled = true
        ∧ t.fp.events.getLsbD 3 = true ∧ t.bhc.waits.substitution = false
        ∧ (s.csc.session = .ready ∨ s.csc.session = .ended →
            t.csc.session = (if s.csc.auth = true ∧ offerValid s = true ∧ s.pins.fault = false ∧ s.pins.supplyFail = false
              then .checking else s.csc.session)))
    ∧ (s.asm.subst = .running →
      exec .substStop s = .next { s.afterWord .fp with asm := { s.asm with subst := .ending } })
    ∧ (s.asm.subst = .off ∨ s.asm.subst = .ending → exec .substStop s = .next (s.afterWord .fp)))
   ∧ (∀ order : HandOver, s.mtr.slot = 4001 →
      ∃ t, exec (.periodClose order) s = .next t
        ∧ (s.asm.subst ≠ .ending → t.asm = s.asm)
        ∧ (s.asm.subst = .ending →
            t.asm = { s.asm with
              subst := .off, substituting := false, cancelled := false, doneCancelled := s.asm.cancelled }
            ∧ t.fp.events.getLsbD 3 = true ∧ t.bhc.waits.substitution = false
            ∧ (s.csc.session = .ready ∨ s.csc.session = .ended →
                t.csc.session = (if s.csc.auth = true ∧ offerValid s = true ∧ s.pins.fault = false ∧ s.pins.supplyFail = false
                  then .checking else s.csc.session))))

/-- The edits of the pending tariff, refused with BUSY while a commit waits: clear, add in start order (FULL beyond eight starts),
price and commit; the band masks are written at any time; TIME_SET sets the staged time, clamped, with the fleet as source. -/
def Obligations.TariffEditsFollowTheirRules : Prop :=
  ∀ (s : State) (v : Word) (b : Band), s.fp.takesWrites →
    let start : Nat := min 86399 (s.ttc.stagedHigh * 65536 + s.ttc.stagedLow) / 60 * 60
    let held : Bool := s.ttc.pendingTable.any fun e => e.start == start
    let band : Band := if 3 ≤ v.toNat then 3 else Fin.ofNat 4 v.toNat
    (s.ttc.commitMark = true →
      exec .pendingClear s = .next (s.afterRefusal .fp .busy 0x50)
      ∧ exec (.pendingAdd v) s = .next (s.afterRefusal .fp .busy 0x53)
      ∧ exec (.pendingPrice b v) s = .next (s.afterRefusal .fp .busy (BitVec.ofNat 8 (0x54 + b.val)))
      ∧ exec .tariffCommit s = .next (s.afterRefusal .fp .busy 0x58))
    ∧ (s.ttc.commitMark = false →
      exec .pendingClear s = .next { s.afterWord .fp with ttc := { s.ttc with pendingTable := [] } }
      ∧ exec (.pendingPrice b v) s = .next
          { s.afterWord .fp with ttc := { s.ttc with pendingPrices := s.ttc.pendingPrices.set b v.toNat } }
      ∧ exec .tariffCommit s = .next { s.afterWord .fp with ttc := { s.ttc with commitMark := true } }
      ∧ (held = false → 8 ≤ s.ttc.pendingTable.length →
          exec (.pendingAdd v) s = .next (s.afterRefusal .fp .full 0x53))
      ∧ (held = true ∨ s.ttc.pendingTable.length < 8 →
          ∃ t, exec (.pendingAdd v) s = .next t
            ∧ t.ttc = { s.ttc with pendingTable := t.ttc.pendingTable }
            ∧ (∀ e, e ∈ t.ttc.pendingTable ↔ e = ⟨start, band⟩ ∨ (e ∈ s.ttc.pendingTable ∧ e.start ≠ start))
            ∧ (tableOk s.ttc.pendingTable = true → tableOk t.ttc.pendingTable = true)
            ∧ keepsAllBut [.ttc, .fp] s t))
    ∧ exec (.bandMaskWrite .traction v) s = .next
        { s.afterWord .fp with ttc := { s.ttc with tractionWritten := BitVec.ofNat 4 (min 15 v.toNat) } }
    ∧ exec (.bandMaskWrite .heating v) s = .next
        { s.afterWord .fp with ttc := { s.ttc with heatingWritten := BitVec.ofNat 4 (min 15 v.toNat) } }
    ∧ (∃ t, exec .timeSet s = .next t
        ∧ t.ttc = { s.ttc with
            day := s.ttc.timeDay, second := min 86399 (s.ttc.timeHigh * 65536 + s.ttc.timeLow), source := .fleet }
        ∧ (openBank s = none → t.brs = s.brs) ∧ keepsAllBut [.ttc, .brs, .fp] s t)

/-- RETIRE_BANK is clamped and kept; RETIRE frees that bank only when it is CLOSED without the mark and its summary holds the
session number named, and every other case is refused; a freed bank reads as unwritten and no other bank changes. RETIRE_BANK is 0
after power-on and kept through a vehicle restart. -/
def Obligations.RetireFreesOnlyTheNamedSession : Prop :=
  (∀ s : State, ∃ t, exec .powerOn s = .next t ∧ t.brs.retireBank = 0)
  ∧ (∀ s : State, s.vp.takesWrites → ∃ t, exec .restart s = .next t ∧ t.brs.retireBank = s.brs.retireBank)
  ∧ ∀ (s : State) (v : Word), s.fp.takesWrites →
    let b := s.brs.retireBank
    exec (.itemWrite .fp 0x68 v) s = .next { s.afterWord .fp with brs := { s.brs with retireBank := octOfWord v } }
    ∧ (octOfWord v).val = min 7 v.toNat
    ∧ ((s.brs.banks.get b).st = .closed → recordWordAt s b 0 0 = v →
      ∃ t, exec (.retire v) s = .next t
        ∧ t.brs.banks.get b = ⟨.free, 2⟩
        ∧ (∀ b', b' ≠ b → t.brs.banks.get b' = s.brs.banks.get b')
        ∧ (∀ slot word, slot < 64 → word < 16 → recordWordAt t b slot word = 0xFFFF)
        ∧ (∀ b' slot word, b' ≠ b → slot < 64 → word < 16 → recordWordAt t b' slot word = recordWordAt s b' slot word)
        ∧ t.brs.retireBank = b ∧ t.brs.vpCursor = s.brs.vpCursor ∧ t.brs.fpCursor = s.brs.fpCursor
        ∧ t.fp = (s.afterWord .fp).fp ∧ keepsAllBut [.brs, .fp] s t)
    ∧ ((s.brs.banks.get b).st = .closed → recordWordAt s b 0 0 ≠ v →
      exec (.retire v) s = .next (s.afterRefusal .fp .mismatch 0x69))
    ∧ ((s.brs.banks.get b).st = .settling → exec (.retire v) s = .next (s.afterRefusal .fp .busy 0x69))
    ∧ ((s.brs.banks.get b).st = .openBank ∨ (s.brs.banks.get b).st = .free →
      exec (.retire v) s = .next (s.afterRefusal .fp .badState 0x69))

/-- The interval records of a bank. A period result of the OPEN bank's session is added to the open interval, field by field; one that
starts at a quarter hour, or with the time unset meets 900 periods, first closes the interval into a record and the summary is
rewritten from the session set. The first result after a close settles the marked bank: its own session's result is added first, the
last interval is recorded PARTIAL and FINAL, the mark goes and RECORD is raised; a full bank drops the record with TRUNCATED in its
own summary. TIME_SET with a step above 2 s closes an interval that holds a period as a partial one and writes TIME_STEP. The order
of the hand-overs is one of the two the model keeps (log entry 4), and a marked bank whose working flags went to the next session
keeps its flags in its own summary by the model's reading (log entry 24). -/
def Obligations.IntervalsSettlementsAndTimeStepsAreRecorded : Prop :=
  let words : Interval → Bool → Bool → List Word := fun v part fin =>
    [natWord (4096 + 1024 * secondHigh v.second + 256 * v.band.val + boolNat v.timeUnset + 2 * boolNat v.disagree
        + 4 * boolNat v.single + 8 * boolNat v.hasGaps + 16 * boolNat part + 32 * boolNat fin),
      natWord v.day, natWord v.second, natWord v.periods, natWord (v.traction / 65536), natWord v.traction,
      natWord (v.heating / 65536), natWord v.heating, natWord v.imp, natWord v.exp, natWord v.slipDrops, natWord v.slipRepeats,
      natWord v.gaps, natWord v.barrierGaps, (v.minInsulation.map natWord).getD 0xFFFF, natWord v.peakSetpoint]
  let plus : Interval → PeriodResult → Interval := fun v p =>
    { day := if v.periods = 0 then p.day else v.day
      second := if v.periods = 0 then p.second else v.second
      band := if v.periods = 0 then p.band else v.band
      periods := min 65535 (v.periods + 1)
      traction := v.traction + p.carried.traction, heating := v.heating + p.carried.heating
      imp := min 65535 (v.imp + p.carried.imp), exp := min 65535 (v.exp + p.carried.exp)
      slipDrops := min 65535 (v.slipDrops + p.slipDrops), slipRepeats := min 65535 (v.slipRepeats + p.slipRepeats)
      gaps := min 65535 (v.gaps + p.gaps), barrierGaps := min 65535 (v.barrierGaps + p.barrierGaps)
      timeUnset := v.timeUnset || p.timeUnset, disagree := v.disagree || p.disagree, single := v.single || p.single
      hasGaps := v.hasGaps || decide (0 < p.gaps), minInsulation := v.minInsulation, peakSetpoint := v.peakSetpoint }
  let holds : State → Fin 8 → Nat → List Word → Prop := fun t b slot ws =>
    ∀ i, i < 16 → recordWordAt t b slot i = ws.getD i 0xFFFF
  ∀ s : State, memWf s.brs.mem = true → ∀ b : Fin 8,
    let v := s.brs.interval
    let next := (s.brs.banks.get b).next
    let n := bankSession s b
    let own : Prop := s.mtr.counts.substituted = false ∧ s.mtr.latches.session = some n
    let ends : Prop := 0 < v.periods ∧ (if s.mtr.latches.timeUnset then 900 ≤ v.periods else s.mtr.latches.second % 900 = 0)
    2 ≤ next →
    (∀ order : HandOver, s.mtr.slot = 4001 → openBank s = some b → settlingBank s = none → own → s.csc.session ≠ .stopping →
      s.bhc.overdraw < 2 → s.bhc.waits.unlockTest = false →
      ∃ t, exec (.periodClose order) s = .next t ∧ ∃ p, t.mtr.last = some p ∧ p.route = .session n
        ∧ (t.brs.banks.get b).st = .openBank
        ∧ (s.brs.workBank = some b →
            t.brs.work.timeUnset = (s.brs.work.timeUnset || p.timeUnset)
            ∧ t.brs.work.disagree = (s.brs.work.disagree || p.disagree))
        ∧ (¬ ends → t.brs.interval = plus v p ∧ (t.brs.banks.get b).next = next
            ∧ (s.brs.workBank = some b → t.brs.mem = s.brs.mem))
        ∧ (ends → t.brs.interval = plus Interval.empty p
            ∧ (next < 64 → holds t b next (words v false false) ∧ (t.brs.banks.get b).next = next + 1)
            ∧ (64 ≤ next → (t.brs.banks.get b).next = next ∧ (s.brs.workBank = some b → t.brs.work.truncated = true))
            ∧ (s.mtr.sess.owner = some n →
                recordWordAt t b 0 11 = natWord (t.mtr.sess.net.imp / 65536) ∧ recordWordAt t b 0 12 = natWord t.mtr.sess.net.imp
                ∧ recordWordAt t b 0 13 = natWord (t.mtr.sess.dcOut.wh / 65536)
                ∧ recordWordAt t b 0 14 = natWord t.mtr.sess.dcOut.wh ∧ recordWordAt t b 0 15 = natWord t.mtr.sess.net.exp
                ∧ recordWordAt t b 1 0 = natWord t.mtr.sess.traction.b0.wh
                ∧ recordWordAt t b 1 4 = natWord t.mtr.sess.heating.b0.wh
                ∧ recordWordAt t b 1 11 = natWord (cents t.mtr.sess.tractionTicks)
                ∧ recordWordAt t b 1 13 = natWord (cents t.mtr.sess.heatingTicks))))
    ∧ (∀ order : HandOver, s.mtr.slot = 4001 → openBank s = none → settlingBank s = some b →
      (∀ b', b' ≠ b → (s.brs.banks.get b').st ≠ .settling) →
      ∃ t, exec (.periodClose order) s = .next t ∧ ∃ p, t.mtr.last = some p ∧ (own → p.route = .session n)
        ∧ (t.brs.banks.get b).st = .closed ∧ t.fp.events.getLsbD 0 = true
        ∧ (own → ¬ ends → t.brs.interval = Interval.empty ∧ (next < 64 → holds t b next (words (plus v p) true true)
            ∧ (t.brs.banks.get b).next = next + 1))
        ∧ (own → ends → t.brs.interval = Interval.empty ∧ (next < 63 → holds t b next (words v false false)
            ∧ holds t b (next + 1) (words (plus Interval.empty p) true true) ∧ (t.brs.banks.get b).next = next + 2))
        ∧ (¬ own → 0 < v.periods → t.brs.interval = Interval.empty ∧ (next < 64 → holds t b next (words v true true)
            ∧ (t.brs.banks.get b).next = next + 1))
        ∧ (¬ own → v.periods = 0 → t.brs.interval = v ∧ (t.brs.banks.get b).next = next
            ∧ ∀ slot i, 2 ≤ slot → slot < 64 → i < 16 → recordWordAt t b slot i = recordWordAt s b slot i)
        ∧ (64 ≤ next → own ∨ 0 < v.periods → (t.brs.banks.get b).next = next
            ∧ (s.brs.work.reason ≤ 12 → (recordWordAt t b 0 9).getLsbD 8 = true)))
    ∧ (s.fp.takesWrites → openBank s = some b →
      let day := s.ttc.timeDay
      let second := min 86399 (s.ttc.timeHigh * 65536 + s.ttc.timeLow)
      let old := s.ttc.day * 86400 + s.ttc.second
      let step := (old - (day * 86400 + second)) + ((day * 86400 + second) - old)
      let event : List Word :=
        [natWord (8192 + 256 * secondHigh second + 3), natWord day, natWord second, natWord s.ttc.day, natWord s.ttc.second,
          natWord day, natWord second, natWord (2 * secondHigh s.ttc.second + secondHigh second), 0, 0, 0, 0, 0, 0, 0, 0]
      ∃ t, exec .timeSet s = .next t
        ∧ (step ≤ 2 → t.brs = s.brs)
        ∧ (2 < step → v.periods = 0 → t.brs.interval = v
            ∧ (next < 64 → holds t b next event ∧ (t.brs.banks.get b).next = next + 1))
        ∧ (2 < step → 0 < v.periods → t.brs.interval = Interval.empty
            ∧ (next < 63 → holds t b next (words v true false) ∧ holds t b (next + 1) event
                ∧ (t.brs.banks.get b).next = next + 2))
        ∧ (2 < step → 64 ≤ next → (t.brs.banks.get b).next = next ∧ (s.brs.workBank = some b → t.brs.work.truncated = true)))

/-- CURSOR_SET sets a port's own cursor, clamped, at word 0 with an empty latch; a read of RECORD_WORD at either port latches the slot at
word 0, returns the latched word, and moves one word on, from word 15 to the next slot of the same bank. The unrecorded totals: a read of the
subtracts what was copied, or clears both totals where no copy stands. Under the snapshot the read of the import total returns what the
snapshot copied and takes no copy, and the clearing read is refused. -/
def Obligations.RecordsAndTotalsAreReadWhole : Prop :=
  ∀ (s : State) (v : Word),
    (s.vp.takesWrites →
      exec (.cursorSet .vp v) s = .next
        { s.afterWord .vp with brs := { s.brs with
            vpCursor := ⟨octOfWord (BitVec.ofNat 16 (min 511 v.toNat / 64)), min 511 v.toNat % 64, 0, none⟩ } })
    ∧ (s.fp.takesWrites →
      exec (.cursorSet .fp v) s = .next
        { s.afterWord .fp with brs := { s.brs with
            fpCursor := ⟨octOfWord (BitVec.ofNat 16 (min 511 v.toNat / 64)), min 511 v.toNat % 64, 0, none⟩ } })
    ∧ (let c := s.brs.vpCursor
      s.vp.ignoring = false → c.word < 16 →
      ∃ t, exec (.recordWord .vp) s = .next t
        ∧ (c.word = 0 →
            t.vp.pendingOut = some (0x87, recordWordAt s c.bank c.slot 0)
            ∧ t.brs.vpCursor = ⟨c.bank, c.slot, 1, some (readSlot s.brs.mem c.bank c.slot)⟩)
        ∧ (∀ ws, c.latch = some ws → 0 < c.word →
            t.vp.pendingOut = some (0x87, ws.getD c.word 0xFFFF)
            ∧ t.brs.vpCursor = ⟨c.bank, if c.word = 15 then (c.slot + 1) % 64 else c.slot, (c.word + 1) % 16, some ws⟩)
        ∧ t.brs.fpCursor = s.brs.fpCursor ∧ t.brs.mem = s.brs.mem ∧ keepsAllBut [.brs, .vp] s t)
    ∧ (∀ bank slot i, i < 16 → (readSlot s.brs.mem bank slot)[i]? = some (recordWordAt s bank slot i))
    ∧ (let c := s.brs.fpCursor
      s.fp.ignoring = false → c.word < 16 →
      ∃ t, exec (.recordWord .fp) s = .next t
        ∧ (c.word = 0 →
            t.fp.pendingOut = some (0x87, recordWordAt s c.bank c.slot 0)
            ∧ t.brs.fpCursor = ⟨c.bank, c.slot, 1, some (readSlot s.brs.mem c.bank c.slot)⟩)
        ∧ (∀ ws, c.latch = some ws → 0 < c.word →
            t.fp.pendingOut = some (0x87, ws.getD c.word 0xFFFF)
            ∧ t.brs.fpCursor = ⟨c.bank, if c.word = 15 then (c.slot + 1) % 64 else c.slot, (c.word + 1) % 16, some ws⟩)
        ∧ t.brs.vpCursor = s.brs.vpCursor ∧ t.brs.mem = s.brs.mem ∧ keepsAllBut [.brs, .fp] s t)
    ∧ (s.brs.unrecordedImport < 2 ^ 32 → s.fp.ignoring = false →
      (s.fp.snapshot = none →
        exec .unrecordedImportHigh s = .next
          { s with
            fp := { s.fp with
              windowOpen := true
              dataOut := s.fp.pendingOut.getD (0xFF, 0xFFFF)
              pendingOut := some (0xEA, natWord (s.brs.unrecordedImport / 65536)) }
            brs := { s.brs with copy := some ⟨s.brs.unrecordedImport, s.brs.unrecordedSessions⟩ } }
        ∧ (∀ c, s.brs.copy = some c → c.imp ≤ 2 ^ 32 →
            exec .fpUnrecordedClear s = .next
              { s with
                fp := { s.fp with
                  windowOpen := true, dataOut := s.fp.pendingOut.getD (0xFF, 0xFFFF), pendingOut := some (0xED, 1) }
                brs := { s.brs with
                  unrecordedImport := (s.brs.unrecordedImport + (2 ^ 32 - c.imp)) % 2 ^ 32
                  unrecordedSessions := s.brs.unrecordedSessions - c.sessions
                  copy := none } }
            ∧ itemValue .fp 0x6B s = natWord c.imp ∧ itemValue .fp 0x6C s = natWord c.sessions)
        ∧ (s.brs.copy = none →
            exec .fpUnrecordedClear s = .next
              { s with
                fp := { s.fp with
                  windowOpen := true, dataOut := s.fp.pendingOut.getD (0xFF, 0xFFFF), pendingOut := some (0xED, 0) }
                brs := { s.brs with unrecordedImport := 0, unrecordedSessions := 0 } }
            ∧ itemValue .fp 0x6B s = natWord s.brs.unrecordedImport
            ∧ itemValue .fp 0x6C s = natWord s.brs.unrecordedSessions))
      ∧ (v ≠ 0 → ∃ u, exec (.snapshot .fp v) s = .next u
        ∧ ∀ s' : State, s'.fp.snapshot = u.fp.snapshot → s'.fp.ignoring = false →
          exec .unrecordedImportHigh s' = .next
            { s' with fp := { s'.fp with
                windowOpen := true
                dataOut := s'.fp.pendingOut.getD (0xFF, 0xFFFF)
                pendingOut := some (0xEA, natWord (s.brs.unrecordedImport / 65536)) } })
      ∧ (s.fp.snapshot ≠ none →
        exec .fpUnrecordedClear s = .next
          { s with fp := { s.fp with
              windowOpen := true
              events := s.fp.events ||| 0x8000
              lastRefusal := 0x036D
              dataOut := s.fp.pendingOut.getD (0xFF, 0xFFFF)
              pendingOut := some (0xED, 0xFFFF) } }))

/-! ### The ports -/

/-- The settings, staged items and selectors that ITEM_WRITE alone writes, and the two thresholds with a row of their own: each is
stored as its chapter clamps it, and nothing else changes but the port. The fault threshold never stands above the warning threshold:
writing the warning threshold lowers it, and writing the fault threshold clamps it. -/
def Obligations.PlainSettingsAreStoredAsClamped : Prop :=
  ∀ (s : State) (v : Word),
    (s.vp.takesWrites →
      let p := s.afterWord .vp
      let w := max 100 (min 1000 v.toNat)
      exec (.itemWrite .vp 0x2B v) s = .next { p with alc := { s.alc with currentLimit := min 2000 v.toNat } }
      ∧ exec (.itemWrite .vp 0x2C v) s = .next { p with alc := { s.alc with powerLimit := min 22000 v.toNat } }
      ∧ exec (.itemWrite .vp 0x36 v) s = .next { p with bhc := { s.bhc with currentLimit := max 500 (min 16000 v.toNat) } }
      ∧ exec (.itemWrite .vp 0x37 v) s = .next { p with bhc := { s.bhc with allowance := max 1 (min 20000 v.toNat) } }
      ∧ exec (.itemWrite .vp 0x38 v) s = .next { p with bhc := { s.bhc with cap := min 9000 v.toNat } }
      ∧ exec (.itemWrite .vp 0x44 v) s = .next { p with imn := { s.imn with settleMs := max 100 (min 2000 v.toNat) } }
      ∧ exec (.itemWrite .vp 0x45 v) s = .next { p with imn := { s.imn with spacingS := max 1 (min 60 v.toNat) } }
      ∧ exec (.itemWrite .vp 0x5F v) s = .next { p with sel := { s.sel with meter := min 13 v.toNat } }
      ∧ exec (.thresholdWrite .warning v) s = .next
          { p with imn := { s.imn with warnThreshold := w, faultThreshold := min s.imn.faultThreshold w } }
      ∧ exec (.thresholdWrite .fault v) s = .next
          { p with imn := { s.imn with faultThreshold := min (max 50 (min 500 v.toNat)) s.imn.warnThreshold } })
    ∧ (s.fp.takesWrites →
      let p := s.afterWord .fp
      exec (.itemWrite .fp 0x20 v) s = .next { p with imn := { s.imn with bridge := max 100 (min 2000 v.toNat) } }
      ∧ exec (.itemWrite .fp 0x21 v) s = .next { p with bhc := { s.bhc with resistance := max 50 (min 2000 v.toNat) } }
      ∧ exec (.itemWrite .fp 0x22 v) s = .next { p with alc := { s.alc with efficiency := max 800 (min 990 v.toNat) } }
      ∧ exec (.itemWrite .fp 0x23 v) s = .next { p with mtr := { s.mtr with creep := min 500 v.toNat } }
      ∧ exec (.itemWrite .fp 0x24 v) s = .next { p with brs := { s.brs with proceed := decide (0 < v.toNat) } }
      ∧ exec (.itemWrite .fp 0x25 v) s = .next { p with brs := { s.brs with account := v } }
      ∧ exec (.itemWrite .fp 0x26 v) s = .next { p with slc := { s.slc with group2Value := BitVec.ofNat 8 (min 255 v.toNat) } }
      ∧ exec (.itemWrite .fp 0x27 v) s = .next { p with slc := { s.slc with group2Mask := BitVec.ofNat 8 (min 255 v.toNat) } }
      ∧ exec (.itemWrite .fp 0x28 v) s = .next { p with slc := { s.slc with group3Value := BitVec.ofNat 8 (min 255 v.toNat) } }
      ∧ exec (.itemWrite .fp 0x29 v) s = .next { p with slc := { s.slc with group3Mask := BitVec.ofNat 8 (min 255 v.toNat) } }
      ∧ exec (.itemWrite .fp 0x48 v) s = .next { p with ttc := { s.ttc with timeDay := v.toNat } }
      ∧ exec (.itemWrite .fp 0x49 v) s = .next { p with ttc := { s.ttc with timeHigh := min 1 v.toNat } }
      ∧ exec (.itemWrite .fp 0x4A v) s = .next { p with ttc := { s.ttc with timeLow := v.toNat } }
      ∧ exec (.itemWrite .fp 0x51 v) s = .next { p with ttc := { s.ttc with stagedHigh := min 1 v.toNat } }
      ∧ exec (.itemWrite .fp 0x52 v) s = .next { p with ttc := { s.ttc with stagedLow := v.toNat } }
      ∧ exec (.itemWrite .fp 0x60 v) s = .next { p with sel := { s.sel with table := min 15 v.toNat } }
      ∧ exec (.itemWrite .fp 0x70 v) s = .next { p with sel := { s.sel with verif := min 5 v.toNat } })

/-- The port's own items: a read of EVENTS returns and clears the flags, EVENT_MASK is stored, SNAPSHOT drops the copy with 0 and takes one with any other value, which is clamped to 1, a
read word of any other item leaves its value as the pending output, a word that ends early changes nothing but the end of its window, and a write of a read
item, of no item or of an unknown command value is refused. That read words, and words of rows of their own, come as ITEM_WRITE too,
that an incomplete word says where it ends, and that the snapshot copies what a read would return, is the model's reading (log
entries 6 and 27). -/
def Obligations.PortItemsAnswer : Prop :=
  ∀ (s : State) (v : Word),
    (s.vp.ignoring = false → exec (.events .vp) s = .next
      { s with vp := { s.vp with
          windowOpen := true, events := 0, dataOut := s.vp.pendingOut.getD (0xFF, 0xFFFF), pendingOut := some (0x82, s.vp.events) } })
    ∧ (s.fp.ignoring = false → exec (.events .fp) s = .next
      { s with fp := { s.fp with
          windowOpen := true, events := 0, dataOut := s.fp.pendingOut.getD (0xFF, 0xFFFF), pendingOut := some (0x82, s.fp.events) } })
    ∧ (s.vp.takesWrites → exec (.eventMask .vp v) s = .next
        { s with vp := { s.vp with
            windowOpen := true, mask := v, dataOut := s.vp.pendingOut.getD (0xFF, 0xFFFF), pendingOut := none } })
    ∧ (s.fp.takesWrites → exec (.eventMask .fp v) s = .next
        { s with fp := { s.fp with
            windowOpen := true, mask := v, dataOut := s.fp.pendingOut.getD (0xFF, 0xFFFF), pendingOut := none } })
    ∧ (∀ p n, (portOf p s).ignoring = false →
        exec (.incompleteWord p n) s = .next (modPort p (fun q => { q with windowOpen := false }) s))
    ∧ (∀ p, (portOf p s).ignoring = false →
        exec (.snapshot p 0) s = .next (modPort p (fun q => { q with snapshot := none }) (s.afterWord p)))
    ∧ (∀ p, (portOf p s).ignoring = false → v ≠ 0 → ∃ t, exec (.snapshot p v) s = .next t
        ∧ exec (.snapshot p 1) s = .next t
        ∧ (∀ n : Fin 128, isCopied p n.val = true → readValue p n.val t = itemValue p n.val (s.afterWord p))
        ∧ (portOf p t).snapshot.isSome = true
        ∧ t.csc = s.csc ∧ t.brs = s.brs ∧ t.mtr = s.mtr)
    ∧ (∀ p (code : Byte), (portOf p s).ignoring = false → 0x80 ≤ code.toNat → code ∉ [0x82, 0x87, 0xEA, 0xED] →
        ∃ t, exec (.itemWrite p code v) s = .next t
          ∧ (portOf p t).pendingOut = some (code, readValue p (code.toNat - 128) s)
          ∧ (portOf p t).dataOut = (portOf p s).pendingOut.getD (0xFF, 0xFFFF)
          ∧ keepsAllBut (if p = .vp then [.vp] else [.fp]) s t)
    ∧ (s.vp.takesWrites →
        exec (.itemWrite .vp 0x22 v) s = .next (s.afterRefusal .vp .notPermitted 0x22)
        ∧ exec (.itemWrite .vp 0x7F v) s = .next (s.afterRefusal .vp .badItem 0x7F)
        ∧ (v = 0 ∨ 4 < v.toNat → exec (.itemWrite .vp 0x20 v) s = .next (s.afterRefusal .vp .badItem 0x20)))
    ∧ (s.fp.takesWrites →
        exec (.itemWrite .fp 0x46 v) s = .next (s.afterRefusal .fp .notPermitted 0x46)
        ∧ exec (.itemWrite .fp 0x7F v) s = .next (s.afterRefusal .fp .badItem 0x7F))

/-- While a port's snapshot is on, every write of that port but SNAPSHOT is refused with SNAPSHOT and changes nothing else, by a row of
its own or by ITEM_WRITE. In a window that stood open at start-up every complete word is ignored, until select rises and the port
takes words again. That INCOMPLETE_WORD stands for that rise is the model's reading (log entry 6). -/
def Obligations.SnapshotAndOldWindowStopWrites : Prop :=
  (∀ (s : State) (c : Instr) (p : Port) (code : Byte), writtenItem c = some (p, code) → (portOf p s).snapshot ≠ none →
    (portOf p s).ignoring = false → exec c s = .next (s.afterRefusal p .snapshot code))
  ∧ (∀ (s : State) (c : Instr) (p : Port), portOfWord c = some p → (portOf p s).ignoring = true → exec c s = .next s)
  ∧ (∀ (s : State) (p : Port) (bits : Nat),
      exec (.incompleteWord p bits) s = .next (modPort p (fun q => { q with windowOpen := false, ignoring := false }) s))

/-! ### Invariants that every step keeps -/

/-- Every step keeps the converter safe (ConverterSafe): in particular no state that a step reaches has a session that may charge
with the converter disabled, a nonzero setpoint with the enable off, or the enable on under an insulation fault of the bus. -/
def Obligations.EveryStepKeepsTheConverterSafe : Prop :=
  ∀ s t : State, ConverterSafe s → step s = .next t → ConverterSafe t

/-- Every step keeps the heater safe (HeaterSafe): the contactor is open in OFF, ISOLATED, LOCKED_OUT and SPENT, and the duty is
non-zero only in HEATING and QUIET and never above 1,024. Every step keeps the quiet flags of allocator and heater at the Insulation
Monitor's window. -/
def Obligations.EveryStepKeepsTheHeaterSafe : Prop :=
  ∀ s t : State, step s = .next t →
    (HeaterSafe s.bhc → HeaterSafe t.bhc) ∧ (QuietFollowsWindow s → QuietFollowsWindow t)

/-- Every step keeps every accumulator of the Metering Engine within its range: a remainder below one watt-hour, and counters that
fit their width. -/
def Obligations.EveryStepKeepsTheAccumulatorsInRange : Prop :=
  ∀ s t : State, MeterInRange s.mtr → step s = .next t → MeterInRange t.mtr

/-- Every step keeps what the part stores within its form: the record memory canonical, the bank slots, totals and cursors in range,
the insulation thresholds, settings and counts in range, both tariff tables ascending, queue and elastic store within their depth,
the clock within its day, the slot number within its period; and in CHECKING no stop reason stands, the mark of a frame
taken in UNPLUGGED stands only with a frame in handling, only an open session has an OPEN bank, and a CHECK is pending only in
CHECKING. -/
def Obligations.EveryStepKeepsTheStoredRanges : Prop :=
  ∀ s t : State, step s = .next t →
    (memWf s.brs.mem = true → memWf t.brs.mem = true)
    ∧ (StoreInRange s.brs → StoreInRange t.brs)
    ∧ (SessionInRange s → SessionInRange t)
    ∧ (CheckStands s → CheckStands t)
    ∧ (ThresholdsInRange s.imn → ThresholdsInRange t.imn)
    ∧ (CountsInRange s.imn → CountsInRange t.imn)
    ∧ (TablesOk s.ttc → TablesOk t.ttc)
    ∧ (BuffersInDepth s → BuffersInDepth t)
    ∧ (ClockInRange s → ClockInRange t)
    ∧ (1 ≤ s.mtr.slot ∧ s.mtr.slot ≤ 4001 → 1 ≤ t.mtr.slot ∧ t.mtr.slot ≤ 4001)

/-- The state after power-on of a part never used meets every invariant. -/
def Obligations.ResetMeetsEveryInvariant : Prop :=
  ConverterSafe State.reset ∧ HeaterSafe State.reset.bhc ∧ QuietFollowsWindow State.reset ∧ MeterInRange State.reset.mtr
  ∧ memWf State.reset.brs.mem = true ∧ StoreInRange State.reset.brs ∧ SessionInRange State.reset ∧ CheckStands State.reset
  ∧ ThresholdsInRange State.reset.imn ∧ CountsInRange State.reset.imn ∧ TablesOk State.reset.ttc ∧ BuffersInDepth State.reset
  ∧ ClockInRange State.reset ∧ State.reset.mtr.slot = 1

/-- A closed bank without the mark changes only by retiring it: whatever else is commanded, its state and every word of it stay. -/
def Obligations.ClosedBanksChangeOnlyByRetiring : Prop :=
  ∀ (c : Instr) (s t : State) (b : Fin 8) (slot word : Nat),
    (∀ v, c ≠ .retire v ∧ c ≠ .itemWrite .fp 0x69 v) → memWf s.brs.mem = true → (s.brs.banks.get b).st = .closed →
    slot < 64 → word < 16 → exec c s = .next t →
    (t.brs.banks.get b).st = .closed ∧ recordWordAt t b slot word = recordWordAt s b slot word

/-- The tariff in force, its prices and its version change only in the slot that starts a period with a commit marked. -/
def Obligations.TariffInForceChangesOnlyAtPeriodStart : Prop :=
  ∀ (c : Instr) (s t : State), exec c s = .next t →
    (∀ order intact, c = .metrologySlot order intact → s.mtr.slot ≠ 1 ∨ s.ttc.commitMark = false) →
    t.ttc.table = s.ttc.table ∧ t.ttc.prices = s.ttc.prices ∧ t.ttc.version = s.ttc.version

/-- An event flag, once raised, stands until its own port reads and clears the flags: no other command of the table clears one.
Power-on clears both ports' flags and a vehicle restart the vehicle port's. -/
def Obligations.EventFlagsStayUntilTheirPortClearsThem : Prop :=
  ∀ (c : Instr) (s t : State), exec c s = .next t → c ≠ .powerOn →
    (c ≠ .restart → c ≠ .events .vp → (∀ v, c ≠ .itemWrite .vp 0x21 v ∧ c ≠ .itemWrite .vp 0x82 v) →
      flagsWithin s.vp.events t.vp.events)
    ∧ (c ≠ .events .fp → (∀ v, c ≠ .itemWrite .fp 0x82 v) → flagsWithin s.fp.events t.fp.events)
end

