-- ==== Sys2Proof/Laws/State.lean ====
section
/-! SUPPORT. One lemma per field of the state for each update of one block, true by definition, so that no proof unfolds a record
update. -/
namespace Sys2Proof.Machine

variable (s : State)

@[simp] theorem State.modPins_pins (f : Pins → Pins) : (s.modPins f).pins = f s.pins := rfl
@[simp] theorem State.modPins_csc (f : Pins → Pins) : (s.modPins f).csc = s.csc := rfl
@[simp] theorem State.modPins_alc (f : Pins → Pins) : (s.modPins f).alc = s.alc := rfl
@[simp] theorem State.modPins_slc (f : Pins → Pins) : (s.modPins f).slc = s.slc := rfl
@[simp] theorem State.modPins_imn (f : Pins → Pins) : (s.modPins f).imn = s.imn := rfl
@[simp] theorem State.modPins_bhc (f : Pins → Pins) : (s.modPins f).bhc = s.bhc := rfl
@[simp] theorem State.modPins_sfe (f : Pins → Pins) : (s.modPins f).sfe = s.sfe := rfl
@[simp] theorem State.modPins_ble (f : Pins → Pins) : (s.modPins f).ble = s.ble := rfl
@[simp] theorem State.modPins_asm (f : Pins → Pins) : (s.modPins f).asm = s.asm := rfl
@[simp] theorem State.modPins_mtr (f : Pins → Pins) : (s.modPins f).mtr = s.mtr := rfl
@[simp] theorem State.modPins_ttc (f : Pins → Pins) : (s.modPins f).ttc = s.ttc := rfl
@[simp] theorem State.modPins_brs (f : Pins → Pins) : (s.modPins f).brs = s.brs := rfl
@[simp] theorem State.modPins_vp (f : Pins → Pins) : (s.modPins f).vp = s.vp := rfl
@[simp] theorem State.modPins_fp (f : Pins → Pins) : (s.modPins f).fp = s.fp := rfl
@[simp] theorem State.modPins_sel (f : Pins → Pins) : (s.modPins f).sel = s.sel := rfl
@[simp] theorem State.modPins_pending (f : Pins → Pins) : (s.modPins f).pending = s.pending := rfl

@[simp] theorem State.modCsc_pins (f : Csc → Csc) : (s.modCsc f).pins = s.pins := rfl
@[simp] theorem State.modCsc_csc (f : Csc → Csc) : (s.modCsc f).csc = f s.csc := rfl
@[simp] theorem State.modCsc_alc (f : Csc → Csc) : (s.modCsc f).alc = s.alc := rfl
@[simp] theorem State.modCsc_slc (f : Csc → Csc) : (s.modCsc f).slc = s.slc := rfl
@[simp] theorem State.modCsc_imn (f : Csc → Csc) : (s.modCsc f).imn = s.imn := rfl
@[simp] theorem State.modCsc_bhc (f : Csc → Csc) : (s.modCsc f).bhc = s.bhc := rfl
@[simp] theorem State.modCsc_sfe (f : Csc → Csc) : (s.modCsc f).sfe = s.sfe := rfl
@[simp] theorem State.modCsc_ble (f : Csc → Csc) : (s.modCsc f).ble = s.ble := rfl
@[simp] theorem State.modCsc_asm (f : Csc → Csc) : (s.modCsc f).asm = s.asm := rfl
@[simp] theorem State.modCsc_mtr (f : Csc → Csc) : (s.modCsc f).mtr = s.mtr := rfl
@[simp] theorem State.modCsc_ttc (f : Csc → Csc) : (s.modCsc f).ttc = s.ttc := rfl
@[simp] theorem State.modCsc_brs (f : Csc → Csc) : (s.modCsc f).brs = s.brs := rfl
@[simp] theorem State.modCsc_vp (f : Csc → Csc) : (s.modCsc f).vp = s.vp := rfl
@[simp] theorem State.modCsc_fp (f : Csc → Csc) : (s.modCsc f).fp = s.fp := rfl
@[simp] theorem State.modCsc_sel (f : Csc → Csc) : (s.modCsc f).sel = s.sel := rfl
@[simp] theorem State.modCsc_pending (f : Csc → Csc) : (s.modCsc f).pending = s.pending := rfl

@[simp] theorem State.modAlc_pins (f : Alc → Alc) : (s.modAlc f).pins = s.pins := rfl
@[simp] theorem State.modAlc_csc (f : Alc → Alc) : (s.modAlc f).csc = s.csc := rfl
@[simp] theorem State.modAlc_alc (f : Alc → Alc) : (s.modAlc f).alc = f s.alc := rfl
@[simp] theorem State.modAlc_slc (f : Alc → Alc) : (s.modAlc f).slc = s.slc := rfl
@[simp] theorem State.modAlc_imn (f : Alc → Alc) : (s.modAlc f).imn = s.imn := rfl
@[simp] theorem State.modAlc_bhc (f : Alc → Alc) : (s.modAlc f).bhc = s.bhc := rfl
@[simp] theorem State.modAlc_sfe (f : Alc → Alc) : (s.modAlc f).sfe = s.sfe := rfl
@[simp] theorem State.modAlc_ble (f : Alc → Alc) : (s.modAlc f).ble = s.ble := rfl
@[simp] theorem State.modAlc_asm (f : Alc → Alc) : (s.modAlc f).asm = s.asm := rfl
@[simp] theorem State.modAlc_mtr (f : Alc → Alc) : (s.modAlc f).mtr = s.mtr := rfl
@[simp] theorem State.modAlc_ttc (f : Alc → Alc) : (s.modAlc f).ttc = s.ttc := rfl
@[simp] theorem State.modAlc_brs (f : Alc → Alc) : (s.modAlc f).brs = s.brs := rfl
@[simp] theorem State.modAlc_vp (f : Alc → Alc) : (s.modAlc f).vp = s.vp := rfl
@[simp] theorem State.modAlc_fp (f : Alc → Alc) : (s.modAlc f).fp = s.fp := rfl
@[simp] theorem State.modAlc_sel (f : Alc → Alc) : (s.modAlc f).sel = s.sel := rfl
@[simp] theorem State.modAlc_pending (f : Alc → Alc) : (s.modAlc f).pending = s.pending := rfl

@[simp] theorem State.modSlc_pins (f : Slc → Slc) : (s.modSlc f).pins = s.pins := rfl
@[simp] theorem State.modSlc_csc (f : Slc → Slc) : (s.modSlc f).csc = s.csc := rfl
@[simp] theorem State.modSlc_alc (f : Slc → Slc) : (s.modSlc f).alc = s.alc := rfl
@[simp] theorem State.modSlc_slc (f : Slc → Slc) : (s.modSlc f).slc = f s.slc := rfl
@[simp] theorem State.modSlc_imn (f : Slc → Slc) : (s.modSlc f).imn = s.imn := rfl
@[simp] theorem State.modSlc_bhc (f : Slc → Slc) : (s.modSlc f).bhc = s.bhc := rfl
@[simp] theorem State.modSlc_sfe (f : Slc → Slc) : (s.modSlc f).sfe = s.sfe := rfl
@[simp] theorem State.modSlc_ble (f : Slc → Slc) : (s.modSlc f).ble = s.ble := rfl
@[simp] theorem State.modSlc_asm (f : Slc → Slc) : (s.modSlc f).asm = s.asm := rfl
@[simp] theorem State.modSlc_mtr (f : Slc → Slc) : (s.modSlc f).mtr = s.mtr := rfl
@[simp] theorem State.modSlc_ttc (f : Slc → Slc) : (s.modSlc f).ttc = s.ttc := rfl
@[simp] theorem State.modSlc_brs (f : Slc → Slc) : (s.modSlc f).brs = s.brs := rfl
@[simp] theorem State.modSlc_vp (f : Slc → Slc) : (s.modSlc f).vp = s.vp := rfl
@[simp] theorem State.modSlc_fp (f : Slc → Slc) : (s.modSlc f).fp = s.fp := rfl
@[simp] theorem State.modSlc_sel (f : Slc → Slc) : (s.modSlc f).sel = s.sel := rfl
@[simp] theorem State.modSlc_pending (f : Slc → Slc) : (s.modSlc f).pending = s.pending := rfl

@[simp] theorem State.modImn_pins (f : Imn → Imn) : (s.modImn f).pins = s.pins := rfl
@[simp] theorem State.modImn_csc (f : Imn → Imn) : (s.modImn f).csc = s.csc := rfl
@[simp] theorem State.modImn_alc (f : Imn → Imn) : (s.modImn f).alc = s.alc := rfl
@[simp] theorem State.modImn_slc (f : Imn → Imn) : (s.modImn f).slc = s.slc := rfl
@[simp] theorem State.modImn_imn (f : Imn → Imn) : (s.modImn f).imn = f s.imn := rfl
@[simp] theorem State.modImn_bhc (f : Imn → Imn) : (s.modImn f).bhc = s.bhc := rfl
@[simp] theorem State.modImn_sfe (f : Imn → Imn) : (s.modImn f).sfe = s.sfe := rfl
@[simp] theorem State.modImn_ble (f : Imn → Imn) : (s.modImn f).ble = s.ble := rfl
@[simp] theorem State.modImn_asm (f : Imn → Imn) : (s.modImn f).asm = s.asm := rfl
@[simp] theorem State.modImn_mtr (f : Imn → Imn) : (s.modImn f).mtr = s.mtr := rfl
@[simp] theorem State.modImn_ttc (f : Imn → Imn) : (s.modImn f).ttc = s.ttc := rfl
@[simp] theorem State.modImn_brs (f : Imn → Imn) : (s.modImn f).brs = s.brs := rfl
@[simp] theorem State.modImn_vp (f : Imn → Imn) : (s.modImn f).vp = s.vp := rfl
@[simp] theorem State.modImn_fp (f : Imn → Imn) : (s.modImn f).fp = s.fp := rfl
@[simp] theorem State.modImn_sel (f : Imn → Imn) : (s.modImn f).sel = s.sel := rfl
@[simp] theorem State.modImn_pending (f : Imn → Imn) : (s.modImn f).pending = s.pending := rfl

@[simp] theorem State.modBhc_pins (f : Bhc → Bhc) : (s.modBhc f).pins = s.pins := rfl
@[simp] theorem State.modBhc_csc (f : Bhc → Bhc) : (s.modBhc f).csc = s.csc := rfl
@[simp] theorem State.modBhc_alc (f : Bhc → Bhc) : (s.modBhc f).alc = s.alc := rfl
@[simp] theorem State.modBhc_slc (f : Bhc → Bhc) : (s.modBhc f).slc = s.slc := rfl
@[simp] theorem State.modBhc_imn (f : Bhc → Bhc) : (s.modBhc f).imn = s.imn := rfl
@[simp] theorem State.modBhc_bhc (f : Bhc → Bhc) : (s.modBhc f).bhc = f s.bhc := rfl
@[simp] theorem State.modBhc_sfe (f : Bhc → Bhc) : (s.modBhc f).sfe = s.sfe := rfl
@[simp] theorem State.modBhc_ble (f : Bhc → Bhc) : (s.modBhc f).ble = s.ble := rfl
@[simp] theorem State.modBhc_asm (f : Bhc → Bhc) : (s.modBhc f).asm = s.asm := rfl
@[simp] theorem State.modBhc_mtr (f : Bhc → Bhc) : (s.modBhc f).mtr = s.mtr := rfl
@[simp] theorem State.modBhc_ttc (f : Bhc → Bhc) : (s.modBhc f).ttc = s.ttc := rfl
@[simp] theorem State.modBhc_brs (f : Bhc → Bhc) : (s.modBhc f).brs = s.brs := rfl
@[simp] theorem State.modBhc_vp (f : Bhc → Bhc) : (s.modBhc f).vp = s.vp := rfl
@[simp] theorem State.modBhc_fp (f : Bhc → Bhc) : (s.modBhc f).fp = s.fp := rfl
@[simp] theorem State.modBhc_sel (f : Bhc → Bhc) : (s.modBhc f).sel = s.sel := rfl
@[simp] theorem State.modBhc_pending (f : Bhc → Bhc) : (s.modBhc f).pending = s.pending := rfl

@[simp] theorem State.modSfe_pins (f : Sfe → Sfe) : (s.modSfe f).pins = s.pins := rfl
@[simp] theorem State.modSfe_csc (f : Sfe → Sfe) : (s.modSfe f).csc = s.csc := rfl
@[simp] theorem State.modSfe_alc (f : Sfe → Sfe) : (s.modSfe f).alc = s.alc := rfl
@[simp] theorem State.modSfe_slc (f : Sfe → Sfe) : (s.modSfe f).slc = s.slc := rfl
@[simp] theorem State.modSfe_imn (f : Sfe → Sfe) : (s.modSfe f).imn = s.imn := rfl
@[simp] theorem State.modSfe_bhc (f : Sfe → Sfe) : (s.modSfe f).bhc = s.bhc := rfl
@[simp] theorem State.modSfe_sfe (f : Sfe → Sfe) : (s.modSfe f).sfe = f s.sfe := rfl
@[simp] theorem State.modSfe_ble (f : Sfe → Sfe) : (s.modSfe f).ble = s.ble := rfl
@[simp] theorem State.modSfe_asm (f : Sfe → Sfe) : (s.modSfe f).asm = s.asm := rfl
@[simp] theorem State.modSfe_mtr (f : Sfe → Sfe) : (s.modSfe f).mtr = s.mtr := rfl
@[simp] theorem State.modSfe_ttc (f : Sfe → Sfe) : (s.modSfe f).ttc = s.ttc := rfl
@[simp] theorem State.modSfe_brs (f : Sfe → Sfe) : (s.modSfe f).brs = s.brs := rfl
@[simp] theorem State.modSfe_vp (f : Sfe → Sfe) : (s.modSfe f).vp = s.vp := rfl
@[simp] theorem State.modSfe_fp (f : Sfe → Sfe) : (s.modSfe f).fp = s.fp := rfl
@[simp] theorem State.modSfe_sel (f : Sfe → Sfe) : (s.modSfe f).sel = s.sel := rfl
@[simp] theorem State.modSfe_pending (f : Sfe → Sfe) : (s.modSfe f).pending = s.pending := rfl

@[simp] theorem State.modBle_pins (f : Ble → Ble) : (s.modBle f).pins = s.pins := rfl
@[simp] theorem State.modBle_csc (f : Ble → Ble) : (s.modBle f).csc = s.csc := rfl
@[simp] theorem State.modBle_alc (f : Ble → Ble) : (s.modBle f).alc = s.alc := rfl
@[simp] theorem State.modBle_slc (f : Ble → Ble) : (s.modBle f).slc = s.slc := rfl
@[simp] theorem State.modBle_imn (f : Ble → Ble) : (s.modBle f).imn = s.imn := rfl
@[simp] theorem State.modBle_bhc (f : Ble → Ble) : (s.modBle f).bhc = s.bhc := rfl
@[simp] theorem State.modBle_sfe (f : Ble → Ble) : (s.modBle f).sfe = s.sfe := rfl
@[simp] theorem State.modBle_ble (f : Ble → Ble) : (s.modBle f).ble = f s.ble := rfl
@[simp] theorem State.modBle_asm (f : Ble → Ble) : (s.modBle f).asm = s.asm := rfl
@[simp] theorem State.modBle_mtr (f : Ble → Ble) : (s.modBle f).mtr = s.mtr := rfl
@[simp] theorem State.modBle_ttc (f : Ble → Ble) : (s.modBle f).ttc = s.ttc := rfl
@[simp] theorem State.modBle_brs (f : Ble → Ble) : (s.modBle f).brs = s.brs := rfl
@[simp] theorem State.modBle_vp (f : Ble → Ble) : (s.modBle f).vp = s.vp := rfl
@[simp] theorem State.modBle_fp (f : Ble → Ble) : (s.modBle f).fp = s.fp := rfl
@[simp] theorem State.modBle_sel (f : Ble → Ble) : (s.modBle f).sel = s.sel := rfl
@[simp] theorem State.modBle_pending (f : Ble → Ble) : (s.modBle f).pending = s.pending := rfl

@[simp] theorem State.modAsm_pins (f : Asm → Asm) : (s.modAsm f).pins = s.pins := rfl
@[simp] theorem State.modAsm_csc (f : Asm → Asm) : (s.modAsm f).csc = s.csc := rfl
@[simp] theorem State.modAsm_alc (f : Asm → Asm) : (s.modAsm f).alc = s.alc := rfl
@[simp] theorem State.modAsm_slc (f : Asm → Asm) : (s.modAsm f).slc = s.slc := rfl
@[simp] theorem State.modAsm_imn (f : Asm → Asm) : (s.modAsm f).imn = s.imn := rfl
@[simp] theorem State.modAsm_bhc (f : Asm → Asm) : (s.modAsm f).bhc = s.bhc := rfl
@[simp] theorem State.modAsm_sfe (f : Asm → Asm) : (s.modAsm f).sfe = s.sfe := rfl
@[simp] theorem State.modAsm_ble (f : Asm → Asm) : (s.modAsm f).ble = s.ble := rfl
@[simp] theorem State.modAsm_asm (f : Asm → Asm) : (s.modAsm f).asm = f s.asm := rfl
@[simp] theorem State.modAsm_mtr (f : Asm → Asm) : (s.modAsm f).mtr = s.mtr := rfl
@[simp] theorem State.modAsm_ttc (f : Asm → Asm) : (s.modAsm f).ttc = s.ttc := rfl
@[simp] theorem State.modAsm_brs (f : Asm → Asm) : (s.modAsm f).brs = s.brs := rfl
@[simp] theorem State.modAsm_vp (f : Asm → Asm) : (s.modAsm f).vp = s.vp := rfl
@[simp] theorem State.modAsm_fp (f : Asm → Asm) : (s.modAsm f).fp = s.fp := rfl
@[simp] theorem State.modAsm_sel (f : Asm → Asm) : (s.modAsm f).sel = s.sel := rfl
@[simp] theorem State.modAsm_pending (f : Asm → Asm) : (s.modAsm f).pending = s.pending := rfl

@[simp] theorem State.modMtr_pins (f : Mtr → Mtr) : (s.modMtr f).pins = s.pins := rfl
@[simp] theorem State.modMtr_csc (f : Mtr → Mtr) : (s.modMtr f).csc = s.csc := rfl
@[simp] theorem State.modMtr_alc (f : Mtr → Mtr) : (s.modMtr f).alc = s.alc := rfl
@[simp] theorem State.modMtr_slc (f : Mtr → Mtr) : (s.modMtr f).slc = s.slc := rfl
@[simp] theorem State.modMtr_imn (f : Mtr → Mtr) : (s.modMtr f).imn = s.imn := rfl
@[simp] theorem State.modMtr_bhc (f : Mtr → Mtr) : (s.modMtr f).bhc = s.bhc := rfl
@[simp] theorem State.modMtr_sfe (f : Mtr → Mtr) : (s.modMtr f).sfe = s.sfe := rfl
@[simp] theorem State.modMtr_ble (f : Mtr → Mtr) : (s.modMtr f).ble = s.ble := rfl
@[simp] theorem State.modMtr_asm (f : Mtr → Mtr) : (s.modMtr f).asm = s.asm := rfl
@[simp] theorem State.modMtr_mtr (f : Mtr → Mtr) : (s.modMtr f).mtr = f s.mtr := rfl
@[simp] theorem State.modMtr_ttc (f : Mtr → Mtr) : (s.modMtr f).ttc = s.ttc := rfl
@[simp] theorem State.modMtr_brs (f : Mtr → Mtr) : (s.modMtr f).brs = s.brs := rfl
@[simp] theorem State.modMtr_vp (f : Mtr → Mtr) : (s.modMtr f).vp = s.vp := rfl
@[simp] theorem State.modMtr_fp (f : Mtr → Mtr) : (s.modMtr f).fp = s.fp := rfl
@[simp] theorem State.modMtr_sel (f : Mtr → Mtr) : (s.modMtr f).sel = s.sel := rfl
@[simp] theorem State.modMtr_pending (f : Mtr → Mtr) : (s.modMtr f).pending = s.pending := rfl

@[simp] theorem State.modTtc_pins (f : Ttc → Ttc) : (s.modTtc f).pins = s.pins := rfl
@[simp] theorem State.modTtc_csc (f : Ttc → Ttc) : (s.modTtc f).csc = s.csc := rfl
@[simp] theorem State.modTtc_alc (f : Ttc → Ttc) : (s.modTtc f).alc = s.alc := rfl
@[simp] theorem State.modTtc_slc (f : Ttc → Ttc) : (s.modTtc f).slc = s.slc := rfl
@[simp] theorem State.modTtc_imn (f : Ttc → Ttc) : (s.modTtc f).imn = s.imn := rfl
@[simp] theorem State.modTtc_bhc (f : Ttc → Ttc) : (s.modTtc f).bhc = s.bhc := rfl
@[simp] theorem State.modTtc_sfe (f : Ttc → Ttc) : (s.modTtc f).sfe = s.sfe := rfl
@[simp] theorem State.modTtc_ble (f : Ttc → Ttc) : (s.modTtc f).ble = s.ble := rfl
@[simp] theorem State.modTtc_asm (f : Ttc → Ttc) : (s.modTtc f).asm = s.asm := rfl
@[simp] theorem State.modTtc_mtr (f : Ttc → Ttc) : (s.modTtc f).mtr = s.mtr := rfl
@[simp] theorem State.modTtc_ttc (f : Ttc → Ttc) : (s.modTtc f).ttc = f s.ttc := rfl
@[simp] theorem State.modTtc_brs (f : Ttc → Ttc) : (s.modTtc f).brs = s.brs := rfl
@[simp] theorem State.modTtc_vp (f : Ttc → Ttc) : (s.modTtc f).vp = s.vp := rfl
@[simp] theorem State.modTtc_fp (f : Ttc → Ttc) : (s.modTtc f).fp = s.fp := rfl
@[simp] theorem State.modTtc_sel (f : Ttc → Ttc) : (s.modTtc f).sel = s.sel := rfl
@[simp] theorem State.modTtc_pending (f : Ttc → Ttc) : (s.modTtc f).pending = s.pending := rfl

@[simp] theorem State.modBrs_pins (f : Brs → Brs) : (s.modBrs f).pins = s.pins := rfl
@[simp] theorem State.modBrs_csc (f : Brs → Brs) : (s.modBrs f).csc = s.csc := rfl
@[simp] theorem State.modBrs_alc (f : Brs → Brs) : (s.modBrs f).alc = s.alc := rfl
@[simp] theorem State.modBrs_slc (f : Brs → Brs) : (s.modBrs f).slc = s.slc := rfl
@[simp] theorem State.modBrs_imn (f : Brs → Brs) : (s.modBrs f).imn = s.imn := rfl
@[simp] theorem State.modBrs_bhc (f : Brs → Brs) : (s.modBrs f).bhc = s.bhc := rfl
@[simp] theorem State.modBrs_sfe (f : Brs → Brs) : (s.modBrs f).sfe = s.sfe := rfl
@[simp] theorem State.modBrs_ble (f : Brs → Brs) : (s.modBrs f).ble = s.ble := rfl
@[simp] theorem State.modBrs_asm (f : Brs → Brs) : (s.modBrs f).asm = s.asm := rfl
@[simp] theorem State.modBrs_mtr (f : Brs → Brs) : (s.modBrs f).mtr = s.mtr := rfl
@[simp] theorem State.modBrs_ttc (f : Brs → Brs) : (s.modBrs f).ttc = s.ttc := rfl
@[simp] theorem State.modBrs_brs (f : Brs → Brs) : (s.modBrs f).brs = f s.brs := rfl
@[simp] theorem State.modBrs_vp (f : Brs → Brs) : (s.modBrs f).vp = s.vp := rfl
@[simp] theorem State.modBrs_fp (f : Brs → Brs) : (s.modBrs f).fp = s.fp := rfl
@[simp] theorem State.modBrs_sel (f : Brs → Brs) : (s.modBrs f).sel = s.sel := rfl
@[simp] theorem State.modBrs_pending (f : Brs → Brs) : (s.modBrs f).pending = s.pending := rfl

@[simp] theorem State.modVp_pins (f : PortState → PortState) : (s.modVp f).pins = s.pins := rfl
@[simp] theorem State.modVp_csc (f : PortState → PortState) : (s.modVp f).csc = s.csc := rfl
@[simp] theorem State.modVp_alc (f : PortState → PortState) : (s.modVp f).alc = s.alc := rfl
@[simp] theorem State.modVp_slc (f : PortState → PortState) : (s.modVp f).slc = s.slc := rfl
@[simp] theorem State.modVp_imn (f : PortState → PortState) : (s.modVp f).imn = s.imn := rfl
@[simp] theorem State.modVp_bhc (f : PortState → PortState) : (s.modVp f).bhc = s.bhc := rfl
@[simp] theorem State.modVp_sfe (f : PortState → PortState) : (s.modVp f).sfe = s.sfe := rfl
@[simp] theorem State.modVp_ble (f : PortState → PortState) : (s.modVp f).ble = s.ble := rfl
@[simp] theorem State.modVp_asm (f : PortState → PortState) : (s.modVp f).asm = s.asm := rfl
@[simp] theorem State.modVp_mtr (f : PortState → PortState) : (s.modVp f).mtr = s.mtr := rfl
@[simp] theorem State.modVp_ttc (f : PortState → PortState) : (s.modVp f).ttc = s.ttc := rfl
@[simp] theorem State.modVp_brs (f : PortState → PortState) : (s.modVp f).brs = s.brs := rfl
@[simp] theorem State.modVp_vp (f : PortState → PortState) : (s.modVp f).vp = f s.vp := rfl
@[simp] theorem State.modVp_fp (f : PortState → PortState) : (s.modVp f).fp = s.fp := rfl
@[simp] theorem State.modVp_sel (f : PortState → PortState) : (s.modVp f).sel = s.sel := rfl
@[simp] theorem State.modVp_pending (f : PortState → PortState) : (s.modVp f).pending = s.pending := rfl

@[simp] theorem State.modFp_pins (f : PortState → PortState) : (s.modFp f).pins = s.pins := rfl
@[simp] theorem State.modFp_csc (f : PortState → PortState) : (s.modFp f).csc = s.csc := rfl
@[simp] theorem State.modFp_alc (f : PortState → PortState) : (s.modFp f).alc = s.alc := rfl
@[simp] theorem State.modFp_slc (f : PortState → PortState) : (s.modFp f).slc = s.slc := rfl
@[simp] theorem State.modFp_imn (f : PortState → PortState) : (s.modFp f).imn = s.imn := rfl
@[simp] theorem State.modFp_bhc (f : PortState → PortState) : (s.modFp f).bhc = s.bhc := rfl
@[simp] theorem State.modFp_sfe (f : PortState → PortState) : (s.modFp f).sfe = s.sfe := rfl
@[simp] theorem State.modFp_ble (f : PortState → PortState) : (s.modFp f).ble = s.ble := rfl
@[simp] theorem State.modFp_asm (f : PortState → PortState) : (s.modFp f).asm = s.asm := rfl
@[simp] theorem State.modFp_mtr (f : PortState → PortState) : (s.modFp f).mtr = s.mtr := rfl
@[simp] theorem State.modFp_ttc (f : PortState → PortState) : (s.modFp f).ttc = s.ttc := rfl
@[simp] theorem State.modFp_brs (f : PortState → PortState) : (s.modFp f).brs = s.brs := rfl
@[simp] theorem State.modFp_vp (f : PortState → PortState) : (s.modFp f).vp = s.vp := rfl
@[simp] theorem State.modFp_fp (f : PortState → PortState) : (s.modFp f).fp = f s.fp := rfl
@[simp] theorem State.modFp_sel (f : PortState → PortState) : (s.modFp f).sel = s.sel := rfl
@[simp] theorem State.modFp_pending (f : PortState → PortState) : (s.modFp f).pending = s.pending := rfl

@[simp] theorem State.modSel_pins (f : Selectors → Selectors) : (s.modSel f).pins = s.pins := rfl
@[simp] theorem State.modSel_csc (f : Selectors → Selectors) : (s.modSel f).csc = s.csc := rfl
@[simp] theorem State.modSel_alc (f : Selectors → Selectors) : (s.modSel f).alc = s.alc := rfl
@[simp] theorem State.modSel_slc (f : Selectors → Selectors) : (s.modSel f).slc = s.slc := rfl
@[simp] theorem State.modSel_imn (f : Selectors → Selectors) : (s.modSel f).imn = s.imn := rfl
@[simp] theorem State.modSel_bhc (f : Selectors → Selectors) : (s.modSel f).bhc = s.bhc := rfl
@[simp] theorem State.modSel_sfe (f : Selectors → Selectors) : (s.modSel f).sfe = s.sfe := rfl
@[simp] theorem State.modSel_ble (f : Selectors → Selectors) : (s.modSel f).ble = s.ble := rfl
@[simp] theorem State.modSel_asm (f : Selectors → Selectors) : (s.modSel f).asm = s.asm := rfl
@[simp] theorem State.modSel_mtr (f : Selectors → Selectors) : (s.modSel f).mtr = s.mtr := rfl
@[simp] theorem State.modSel_ttc (f : Selectors → Selectors) : (s.modSel f).ttc = s.ttc := rfl
@[simp] theorem State.modSel_brs (f : Selectors → Selectors) : (s.modSel f).brs = s.brs := rfl
@[simp] theorem State.modSel_vp (f : Selectors → Selectors) : (s.modSel f).vp = s.vp := rfl
@[simp] theorem State.modSel_fp (f : Selectors → Selectors) : (s.modSel f).fp = s.fp := rfl
@[simp] theorem State.modSel_sel (f : Selectors → Selectors) : (s.modSel f).sel = f s.sel := rfl
@[simp] theorem State.modSel_pending (f : Selectors → Selectors) : (s.modSel f).pending = s.pending := rfl

@[simp] theorem State.withFront_pins (c : Instr) : (s.withFront c).pins = s.pins := rfl
@[simp] theorem State.withFront_csc (c : Instr) : (s.withFront c).csc = s.csc := rfl
@[simp] theorem State.withFront_alc (c : Instr) : (s.withFront c).alc = s.alc := rfl
@[simp] theorem State.withFront_slc (c : Instr) : (s.withFront c).slc = s.slc := rfl
@[simp] theorem State.withFront_imn (c : Instr) : (s.withFront c).imn = s.imn := rfl
@[simp] theorem State.withFront_bhc (c : Instr) : (s.withFront c).bhc = s.bhc := rfl
@[simp] theorem State.withFront_sfe (c : Instr) : (s.withFront c).sfe = s.sfe := rfl
@[simp] theorem State.withFront_ble (c : Instr) : (s.withFront c).ble = s.ble := rfl
@[simp] theorem State.withFront_asm (c : Instr) : (s.withFront c).asm = s.asm := rfl
@[simp] theorem State.withFront_mtr (c : Instr) : (s.withFront c).mtr = s.mtr := rfl
@[simp] theorem State.withFront_ttc (c : Instr) : (s.withFront c).ttc = s.ttc := rfl
@[simp] theorem State.withFront_brs (c : Instr) : (s.withFront c).brs = s.brs := rfl
@[simp] theorem State.withFront_vp (c : Instr) : (s.withFront c).vp = s.vp := rfl
@[simp] theorem State.withFront_fp (c : Instr) : (s.withFront c).fp = s.fp := rfl
@[simp] theorem State.withFront_sel (c : Instr) : (s.withFront c).sel = s.sel := rfl
@[simp] theorem State.withFront_pending (c : Instr) : (s.withFront c).pending = c :: s.pending := rfl

end Sys2Proof.Machine
end

