-- ==== Sys2Proof/Laws/Frames.lean ====
section
/-! SUPPORT. One lemma per shared operation that says once which blocks of the state it leaves alone. Each is a conjunction, which
simp takes as one rewriting rule per block. -/
namespace Sys2Proof.Machine

/-! ### Machine/Ops.lean -/

@[simp] theorem raiseVp_frame (e : VpEvent) (s : State) :
    (raiseVp e s).pins = s.pins ∧ (raiseVp e s).csc = s.csc ∧ (raiseVp e s).alc = s.alc ∧ (raiseVp e s).slc = s.slc ∧
    (raiseVp e s).imn = s.imn ∧ (raiseVp e s).bhc = s.bhc ∧ (raiseVp e s).sfe = s.sfe ∧ (raiseVp e s).ble = s.ble ∧
    (raiseVp e s).asm = s.asm ∧ (raiseVp e s).mtr = s.mtr ∧ (raiseVp e s).ttc = s.ttc ∧ (raiseVp e s).brs = s.brs ∧
    (raiseVp e s).fp = s.fp ∧ (raiseVp e s).sel = s.sel ∧ (raiseVp e s).pending = s.pending := by
  unfold raiseVp; simp

@[simp] theorem raiseFp_frame (e : FpEvent) (s : State) :
    (raiseFp e s).pins = s.pins ∧ (raiseFp e s).csc = s.csc ∧ (raiseFp e s).alc = s.alc ∧ (raiseFp e s).slc = s.slc ∧
    (raiseFp e s).imn = s.imn ∧ (raiseFp e s).bhc = s.bhc ∧ (raiseFp e s).sfe = s.sfe ∧ (raiseFp e s).ble = s.ble ∧
    (raiseFp e s).asm = s.asm ∧ (raiseFp e s).mtr = s.mtr ∧ (raiseFp e s).ttc = s.ttc ∧ (raiseFp e s).brs = s.brs ∧
    (raiseFp e s).vp = s.vp ∧ (raiseFp e s).sel = s.sel ∧ (raiseFp e s).pending = s.pending := by
  unfold raiseFp; simp

@[simp] theorem refuse_frame (p : Port) (r : WriteRefusal) (code : Byte) (s : State) :
    (refuse p r code s).pins = s.pins ∧ (refuse p r code s).csc = s.csc ∧ (refuse p r code s).alc = s.alc ∧
    (refuse p r code s).slc = s.slc ∧ (refuse p r code s).imn = s.imn ∧ (refuse p r code s).bhc = s.bhc ∧
    (refuse p r code s).sfe = s.sfe ∧ (refuse p r code s).ble = s.ble ∧ (refuse p r code s).asm = s.asm ∧
    (refuse p r code s).mtr = s.mtr ∧ (refuse p r code s).ttc = s.ttc ∧ (refuse p r code s).brs = s.brs ∧
    (refuse p r code s).sel = s.sel ∧ (refuse p r code s).pending = s.pending := by
  unfold refuse; split <;> simp

/-! ### Machine/Records.lean -/

@[simp] theorem setBankState_frame (bank : Fin 8) (st : BankState) (s : State) :
    (setBankState bank st s).pins = s.pins ∧ (setBankState bank st s).csc = s.csc ∧ (setBankState bank st s).alc = s.alc ∧
    (setBankState bank st s).slc = s.slc ∧ (setBankState bank st s).imn = s.imn ∧ (setBankState bank st s).bhc = s.bhc ∧
    (setBankState bank st s).sfe = s.sfe ∧ (setBankState bank st s).ble = s.ble ∧ (setBankState bank st s).asm = s.asm ∧
    (setBankState bank st s).mtr = s.mtr ∧ (setBankState bank st s).ttc = s.ttc ∧ (setBankState bank st s).vp = s.vp ∧
    (setBankState bank st s).fp = s.fp ∧ (setBankState bank st s).sel = s.sel ∧
    (setBankState bank st s).pending = s.pending := by
  unfold setBankState; simp

@[simp] theorem appendRecord_frame (bank : Fin 8) (ws : List Word) (s : State) :
    (appendRecord bank ws s).pins = s.pins ∧ (appendRecord bank ws s).csc = s.csc ∧ (appendRecord bank ws s).alc = s.alc ∧
    (appendRecord bank ws s).slc = s.slc ∧ (appendRecord bank ws s).imn = s.imn ∧ (appendRecord bank ws s).bhc = s.bhc ∧
    (appendRecord bank ws s).sfe = s.sfe ∧ (appendRecord bank ws s).ble = s.ble ∧ (appendRecord bank ws s).asm = s.asm ∧
    (appendRecord bank ws s).mtr = s.mtr ∧ (appendRecord bank ws s).ttc = s.ttc ∧ (appendRecord bank ws s).vp = s.vp ∧
    (appendRecord bank ws s).fp = s.fp ∧ (appendRecord bank ws s).sel = s.sel ∧
    (appendRecord bank ws s).pending = s.pending := by
  unfold appendRecord; simp

@[simp] theorem rewriteSummary_frame (bank : Fin 8) (s : State) :
    (rewriteSummary bank s).pins = s.pins ∧ (rewriteSummary bank s).csc = s.csc ∧ (rewriteSummary bank s).alc = s.alc ∧
    (rewriteSummary bank s).slc = s.slc ∧ (rewriteSummary bank s).imn = s.imn ∧ (rewriteSummary bank s).bhc = s.bhc ∧
    (rewriteSummary bank s).sfe = s.sfe ∧ (rewriteSummary bank s).ble = s.ble ∧ (rewriteSummary bank s).asm = s.asm ∧
    (rewriteSummary bank s).mtr = s.mtr ∧ (rewriteSummary bank s).ttc = s.ttc ∧ (rewriteSummary bank s).vp = s.vp ∧
    (rewriteSummary bank s).fp = s.fp ∧ (rewriteSummary bank s).sel = s.sel ∧
    (rewriteSummary bank s).pending = s.pending := by
  unfold rewriteSummary; simp

@[simp] theorem closeInterval_frame (bank : Fin 8) (part fin : Bool) (s : State) :
    (closeInterval bank part fin s).pins = s.pins ∧ (closeInterval bank part fin s).csc = s.csc ∧
    (closeInterval bank part fin s).alc = s.alc ∧ (closeInterval bank part fin s).slc = s.slc ∧
    (closeInterval bank part fin s).imn = s.imn ∧ (closeInterval bank part fin s).bhc = s.bhc ∧
    (closeInterval bank part fin s).sfe = s.sfe ∧ (closeInterval bank part fin s).ble = s.ble ∧
    (closeInterval bank part fin s).asm = s.asm ∧ (closeInterval bank part fin s).mtr = s.mtr ∧
    (closeInterval bank part fin s).ttc = s.ttc ∧ (closeInterval bank part fin s).vp = s.vp ∧
    (closeInterval bank part fin s).fp = s.fp ∧ (closeInterval bank part fin s).sel = s.sel ∧
    (closeInterval bank part fin s).pending = s.pending := by
  unfold closeInterval; simp

@[simp] theorem handRecord_frame (kind : Nat) (w3 w4 w5 w6 w7 : Word) (s : State) :
    (handRecord kind w3 w4 w5 w6 w7 s).pins = s.pins ∧ (handRecord kind w3 w4 w5 w6 w7 s).csc = s.csc ∧
    (handRecord kind w3 w4 w5 w6 w7 s).alc = s.alc ∧ (handRecord kind w3 w4 w5 w6 w7 s).slc = s.slc ∧
    (handRecord kind w3 w4 w5 w6 w7 s).imn = s.imn ∧ (handRecord kind w3 w4 w5 w6 w7 s).bhc = s.bhc ∧
    (handRecord kind w3 w4 w5 w6 w7 s).sfe = s.sfe ∧ (handRecord kind w3 w4 w5 w6 w7 s).ble = s.ble ∧
    (handRecord kind w3 w4 w5 w6 w7 s).asm = s.asm ∧ (handRecord kind w3 w4 w5 w6 w7 s).mtr = s.mtr ∧
    (handRecord kind w3 w4 w5 w6 w7 s).ttc = s.ttc ∧ (handRecord kind w3 w4 w5 w6 w7 s).vp = s.vp ∧
    (handRecord kind w3 w4 w5 w6 w7 s).fp = s.fp ∧ (handRecord kind w3 w4 w5 w6 w7 s).sel = s.sel ∧
    (handRecord kind w3 w4 w5 w6 w7 s).pending = s.pending := by
  unfold handRecord; split <;> simp

@[simp] theorem recordHold_frame (enter : Bool) (r : HoldReason) (s : State) :
    (recordHold enter r s).pins = s.pins ∧ (recordHold enter r s).csc = s.csc ∧ (recordHold enter r s).alc = s.alc ∧
    (recordHold enter r s).slc = s.slc ∧ (recordHold enter r s).imn = s.imn ∧ (recordHold enter r s).bhc = s.bhc ∧
    (recordHold enter r s).sfe = s.sfe ∧ (recordHold enter r s).ble = s.ble ∧ (recordHold enter r s).asm = s.asm ∧
    (recordHold enter r s).mtr = s.mtr ∧ (recordHold enter r s).ttc = s.ttc ∧ (recordHold enter r s).vp = s.vp ∧
    (recordHold enter r s).fp = s.fp ∧ (recordHold enter r s).sel = s.sel ∧ (recordHold enter r s).pending = s.pending := by
  unfold recordHold; simp

@[simp] theorem recordTariff_frame (s : State) :
    (recordTariff s).pins = s.pins ∧ (recordTariff s).csc = s.csc ∧ (recordTariff s).alc = s.alc ∧
    (recordTariff s).slc = s.slc ∧ (recordTariff s).imn = s.imn ∧ (recordTariff s).bhc = s.bhc ∧
    (recordTariff s).sfe = s.sfe ∧ (recordTariff s).ble = s.ble ∧ (recordTariff s).asm = s.asm ∧
    (recordTariff s).mtr = s.mtr ∧ (recordTariff s).ttc = s.ttc ∧ (recordTariff s).vp = s.vp ∧ (recordTariff s).fp = s.fp ∧
    (recordTariff s).sel = s.sel ∧ (recordTariff s).pending = s.pending := by
  unfold recordTariff; split <;> simp

@[simp] theorem recordInsulation_frame (v : Verdict) (c : Cause) (minimum : Nat) (s : State) :
    (recordInsulation v c minimum s).pins = s.pins ∧ (recordInsulation v c minimum s).csc = s.csc ∧
    (recordInsulation v c minimum s).alc = s.alc ∧ (recordInsulation v c minimum s).slc = s.slc ∧
    (recordInsulation v c minimum s).imn = s.imn ∧ (recordInsulation v c minimum s).bhc = s.bhc ∧
    (recordInsulation v c minimum s).sfe = s.sfe ∧ (recordInsulation v c minimum s).ble = s.ble ∧
    (recordInsulation v c minimum s).asm = s.asm ∧ (recordInsulation v c minimum s).mtr = s.mtr ∧
    (recordInsulation v c minimum s).ttc = s.ttc ∧ (recordInsulation v c minimum s).vp = s.vp ∧
    (recordInsulation v c minimum s).fp = s.fp ∧ (recordInsulation v c minimum s).sel = s.sel ∧
    (recordInsulation v c minimum s).pending = s.pending := by
  unfold recordInsulation; simp

@[simp] theorem recordLockout_frame (c : LockCause) (s : State) :
    (recordLockout c s).pins = s.pins ∧ (recordLockout c s).csc = s.csc ∧ (recordLockout c s).alc = s.alc ∧
    (recordLockout c s).slc = s.slc ∧ (recordLockout c s).imn = s.imn ∧ (recordLockout c s).bhc = s.bhc ∧
    (recordLockout c s).sfe = s.sfe ∧ (recordLockout c s).ble = s.ble ∧ (recordLockout c s).asm = s.asm ∧
    (recordLockout c s).mtr = s.mtr ∧ (recordLockout c s).ttc = s.ttc ∧ (recordLockout c s).vp = s.vp ∧
    (recordLockout c s).fp = s.fp ∧ (recordLockout c s).sel = s.sel ∧ (recordLockout c s).pending = s.pending := by
  unfold recordLockout; simp

@[simp] theorem recordLink_frame (up : Bool) (s : State) :
    (recordLink up s).pins = s.pins ∧ (recordLink up s).csc = s.csc ∧ (recordLink up s).alc = s.alc ∧
    (recordLink up s).slc = s.slc ∧ (recordLink up s).imn = s.imn ∧ (recordLink up s).bhc = s.bhc ∧
    (recordLink up s).sfe = s.sfe ∧ (recordLink up s).ble = s.ble ∧ (recordLink up s).asm = s.asm ∧
    (recordLink up s).mtr = s.mtr ∧ (recordLink up s).ttc = s.ttc ∧ (recordLink up s).vp = s.vp ∧
    (recordLink up s).fp = s.fp ∧ (recordLink up s).sel = s.sel ∧ (recordLink up s).pending = s.pending := by
  unfold recordLink; simp

@[simp] theorem recordStationStop_frame (reason : Byte) (s : State) :
    (recordStationStop reason s).pins = s.pins ∧ (recordStationStop reason s).csc = s.csc ∧
    (recordStationStop reason s).alc = s.alc ∧ (recordStationStop reason s).slc = s.slc ∧
    (recordStationStop reason s).imn = s.imn ∧ (recordStationStop reason s).bhc = s.bhc ∧
    (recordStationStop reason s).sfe = s.sfe ∧ (recordStationStop reason s).ble = s.ble ∧
    (recordStationStop reason s).asm = s.asm ∧ (recordStationStop reason s).mtr = s.mtr ∧
    (recordStationStop reason s).ttc = s.ttc ∧ (recordStationStop reason s).vp = s.vp ∧
    (recordStationStop reason s).fp = s.fp ∧ (recordStationStop reason s).sel = s.sel ∧
    (recordStationStop reason s).pending = s.pending := by
  unfold recordStationStop; simp

@[simp] theorem takeTimeStep_frame (old new : ClockTime) (s : State) :
    (takeTimeStep old new s).pins = s.pins ∧ (takeTimeStep old new s).csc = s.csc ∧ (takeTimeStep old new s).alc = s.alc ∧
    (takeTimeStep old new s).slc = s.slc ∧ (takeTimeStep old new s).imn = s.imn ∧ (takeTimeStep old new s).bhc = s.bhc ∧
    (takeTimeStep old new s).sfe = s.sfe ∧ (takeTimeStep old new s).ble = s.ble ∧ (takeTimeStep old new s).asm = s.asm ∧
    (takeTimeStep old new s).mtr = s.mtr ∧ (takeTimeStep old new s).ttc = s.ttc ∧ (takeTimeStep old new s).vp = s.vp ∧
    (takeTimeStep old new s).fp = s.fp ∧ (takeTimeStep old new s).sel = s.sel ∧
    (takeTimeStep old new s).pending = s.pending := by
  unfold takeTimeStep; (repeat' split) <;> simp

@[simp] theorem takeMinimum_frame (m : Nat) (s : State) :
    (takeMinimum m s).pins = s.pins ∧ (takeMinimum m s).csc = s.csc ∧ (takeMinimum m s).alc = s.alc ∧
    (takeMinimum m s).slc = s.slc ∧ (takeMinimum m s).imn = s.imn ∧ (takeMinimum m s).bhc = s.bhc ∧
    (takeMinimum m s).sfe = s.sfe ∧ (takeMinimum m s).ble = s.ble ∧ (takeMinimum m s).asm = s.asm ∧
    (takeMinimum m s).mtr = s.mtr ∧ (takeMinimum m s).ttc = s.ttc ∧ (takeMinimum m s).vp = s.vp ∧
    (takeMinimum m s).fp = s.fp ∧ (takeMinimum m s).sel = s.sel ∧ (takeMinimum m s).pending = s.pending := by
  unfold takeMinimum; split <;> simp

@[simp] theorem takeSetpoint_frame (x : Nat) (s : State) :
    (takeSetpoint x s).pins = s.pins ∧ (takeSetpoint x s).csc = s.csc ∧ (takeSetpoint x s).alc = s.alc ∧
    (takeSetpoint x s).slc = s.slc ∧ (takeSetpoint x s).imn = s.imn ∧ (takeSetpoint x s).bhc = s.bhc ∧
    (takeSetpoint x s).sfe = s.sfe ∧ (takeSetpoint x s).ble = s.ble ∧ (takeSetpoint x s).asm = s.asm ∧
    (takeSetpoint x s).mtr = s.mtr ∧ (takeSetpoint x s).ttc = s.ttc ∧ (takeSetpoint x s).vp = s.vp ∧
    (takeSetpoint x s).fp = s.fp ∧ (takeSetpoint x s).sel = s.sel ∧ (takeSetpoint x s).pending = s.pending := by
  unfold takeSetpoint; split <;> simp

@[simp] theorem setUpBank_frame (b : Fin 8) (identity : Word) (ref : BitVec 32) (s : State) :
    (setUpBank b identity ref s).pins = s.pins ∧ (setUpBank b identity ref s).csc = s.csc ∧
    (setUpBank b identity ref s).alc = s.alc ∧ (setUpBank b identity ref s).slc = s.slc ∧
    (setUpBank b identity ref s).imn = s.imn ∧ (setUpBank b identity ref s).bhc = s.bhc ∧
    (setUpBank b identity ref s).sfe = s.sfe ∧ (setUpBank b identity ref s).ble = s.ble ∧
    (setUpBank b identity ref s).asm = s.asm ∧ (setUpBank b identity ref s).mtr = s.mtr ∧
    (setUpBank b identity ref s).ttc = s.ttc ∧ (setUpBank b identity ref s).vp = s.vp ∧
    (setUpBank b identity ref s).fp = s.fp ∧ (setUpBank b identity ref s).sel = s.sel ∧
    (setUpBank b identity ref s).pending = s.pending := by
  unfold setUpBank; simp

@[simp] theorem requestBank_frame (identity : Word) (ref : BitVec 32) (s : State) :
    (requestBank identity ref s).pins = s.pins ∧ (requestBank identity ref s).csc = s.csc ∧
    (requestBank identity ref s).alc = s.alc ∧ (requestBank identity ref s).slc = s.slc ∧
    (requestBank identity ref s).imn = s.imn ∧ (requestBank identity ref s).bhc = s.bhc ∧
    (requestBank identity ref s).sfe = s.sfe ∧ (requestBank identity ref s).ble = s.ble ∧
    (requestBank identity ref s).asm = s.asm ∧ (requestBank identity ref s).mtr = s.mtr ∧
    (requestBank identity ref s).ttc = s.ttc ∧ (requestBank identity ref s).vp = s.vp ∧
    (requestBank identity ref s).sel = s.sel ∧ (requestBank identity ref s).pending = s.pending := by
  unfold requestBank; (repeat' split) <;> simp

@[simp] theorem addResult_frame (b : Fin 8) (p : PeriodResult) (s : State) :
    (addResult b p s).pins = s.pins ∧ (addResult b p s).csc = s.csc ∧ (addResult b p s).alc = s.alc ∧
    (addResult b p s).slc = s.slc ∧ (addResult b p s).imn = s.imn ∧ (addResult b p s).bhc = s.bhc ∧
    (addResult b p s).sfe = s.sfe ∧ (addResult b p s).ble = s.ble ∧ (addResult b p s).asm = s.asm ∧
    (addResult b p s).mtr = s.mtr ∧ (addResult b p s).ttc = s.ttc ∧ (addResult b p s).vp = s.vp ∧
    (addResult b p s).fp = s.fp ∧ (addResult b p s).sel = s.sel ∧ (addResult b p s).pending = s.pending := by
  unfold addResult; split <;> simp

@[simp] theorem settle_frame (b : Fin 8) (s : State) :
    (settle b s).pins = s.pins ∧ (settle b s).csc = s.csc ∧ (settle b s).alc = s.alc ∧ (settle b s).slc = s.slc ∧
    (settle b s).imn = s.imn ∧ (settle b s).bhc = s.bhc ∧ (settle b s).sfe = s.sfe ∧ (settle b s).ble = s.ble ∧
    (settle b s).asm = s.asm ∧ (settle b s).mtr = s.mtr ∧ (settle b s).ttc = s.ttc ∧ (settle b s).vp = s.vp ∧
    (settle b s).sel = s.sel ∧ (settle b s).pending = s.pending := by
  unfold settle; split <;> simp

@[simp] theorem settleAll_frame (p : Option PeriodResult) (k : Nat) (s : State) :
    (settleAll p k s).pins = s.pins ∧ (settleAll p k s).csc = s.csc ∧ (settleAll p k s).alc = s.alc ∧
    (settleAll p k s).slc = s.slc ∧ (settleAll p k s).imn = s.imn ∧ (settleAll p k s).bhc = s.bhc ∧
    (settleAll p k s).sfe = s.sfe ∧ (settleAll p k s).ble = s.ble ∧ (settleAll p k s).asm = s.asm ∧
    (settleAll p k s).mtr = s.mtr ∧ (settleAll p k s).ttc = s.ttc ∧ (settleAll p k s).vp = s.vp ∧
    (settleAll p k s).sel = s.sel ∧ (settleAll p k s).pending = s.pending := by
  induction k generalizing s with
  | zero => simp [settleAll]
  | succ k ih =>
    unfold settleAll
    repeat' split
    all_goals simp [ih]

@[simp] theorem addUnrecorded_frame (p : PeriodResult) (s : State) :
    (addUnrecorded p s).pins = s.pins ∧ (addUnrecorded p s).csc = s.csc ∧ (addUnrecorded p s).alc = s.alc ∧
    (addUnrecorded p s).slc = s.slc ∧ (addUnrecorded p s).imn = s.imn ∧ (addUnrecorded p s).bhc = s.bhc ∧
    (addUnrecorded p s).sfe = s.sfe ∧ (addUnrecorded p s).ble = s.ble ∧ (addUnrecorded p s).asm = s.asm ∧
    (addUnrecorded p s).mtr = s.mtr ∧ (addUnrecorded p s).ttc = s.ttc ∧ (addUnrecorded p s).vp = s.vp ∧
    (addUnrecorded p s).fp = s.fp ∧ (addUnrecorded p s).sel = s.sel ∧ (addUnrecorded p s).pending = s.pending := by
  unfold addUnrecorded; split <;> simp

@[simp] theorem addToOpen_frame (p : PeriodResult) (s : State) :
    (addToOpen p s).pins = s.pins ∧ (addToOpen p s).csc = s.csc ∧ (addToOpen p s).alc = s.alc ∧ (addToOpen p s).slc = s.slc ∧
    (addToOpen p s).imn = s.imn ∧ (addToOpen p s).bhc = s.bhc ∧ (addToOpen p s).sfe = s.sfe ∧ (addToOpen p s).ble = s.ble ∧
    (addToOpen p s).asm = s.asm ∧ (addToOpen p s).mtr = s.mtr ∧ (addToOpen p s).ttc = s.ttc ∧ (addToOpen p s).vp = s.vp ∧
    (addToOpen p s).fp = s.fp ∧ (addToOpen p s).sel = s.sel ∧ (addToOpen p s).pending = s.pending := by
  unfold addToOpen; (repeat' split) <;> simp

@[simp] theorem recordsTakeResult_frame (p : PeriodResult) (s : State) :
    (recordsTakeResult p s).pins = s.pins ∧ (recordsTakeResult p s).csc = s.csc ∧ (recordsTakeResult p s).alc = s.alc ∧
    (recordsTakeResult p s).slc = s.slc ∧ (recordsTakeResult p s).imn = s.imn ∧ (recordsTakeResult p s).bhc = s.bhc ∧
    (recordsTakeResult p s).sfe = s.sfe ∧ (recordsTakeResult p s).ble = s.ble ∧ (recordsTakeResult p s).asm = s.asm ∧
    (recordsTakeResult p s).mtr = s.mtr ∧ (recordsTakeResult p s).ttc = s.ttc ∧ (recordsTakeResult p s).vp = s.vp ∧
    (recordsTakeResult p s).sel = s.sel ∧ (recordsTakeResult p s).pending = s.pending := by
  unfold recordsTakeResult; simp

@[simp] theorem stampClose_frame (reason : Nat) (s : State) :
    (stampClose reason s).pins = s.pins ∧ (stampClose reason s).csc = s.csc ∧ (stampClose reason s).alc = s.alc ∧
    (stampClose reason s).slc = s.slc ∧ (stampClose reason s).imn = s.imn ∧ (stampClose reason s).bhc = s.bhc ∧
    (stampClose reason s).sfe = s.sfe ∧ (stampClose reason s).ble = s.ble ∧ (stampClose reason s).asm = s.asm ∧
    (stampClose reason s).mtr = s.mtr ∧ (stampClose reason s).ttc = s.ttc ∧ (stampClose reason s).vp = s.vp ∧
    (stampClose reason s).fp = s.fp ∧ (stampClose reason s).sel = s.sel ∧
    (stampClose reason s).pending = s.pending := by
  unfold stampClose; simp

@[simp] theorem closeBank_frame (reason : Option StopReason) (s : State) :
    (closeBank reason s).pins = s.pins ∧
    (closeBank reason s).csc = s.csc ∧ (closeBank reason s).alc = s.alc ∧ (closeBank reason s).slc = s.slc ∧
    (closeBank reason s).imn = s.imn ∧ (closeBank reason s).bhc = s.bhc ∧ (closeBank reason s).sfe = s.sfe ∧
    (closeBank reason s).ble = s.ble ∧ (closeBank reason s).asm = s.asm ∧ (closeBank reason s).mtr = s.mtr ∧
    (closeBank reason s).ttc = s.ttc ∧ (closeBank reason s).vp = s.vp ∧ (closeBank reason s).sel = s.sel ∧
    (closeBank reason s).pending = s.pending := by
  unfold closeBank; (repeat' split) <;> simp

@[simp] theorem settleNow_frame (s : State) :
    (settleNow s).pins = s.pins ∧ (settleNow s).csc = s.csc ∧ (settleNow s).alc = s.alc ∧ (settleNow s).slc = s.slc ∧
    (settleNow s).imn = s.imn ∧ (settleNow s).bhc = s.bhc ∧ (settleNow s).sfe = s.sfe ∧ (settleNow s).ble = s.ble ∧
    (settleNow s).asm = s.asm ∧ (settleNow s).mtr = s.mtr ∧ (settleNow s).ttc = s.ttc ∧ (settleNow s).vp = s.vp ∧
    (settleNow s).sel = s.sel ∧ (settleNow s).pending = s.pending := by
  unfold settleNow; simp

@[simp] theorem freeBank_frame (b : Fin 8) (s : State) :
    (freeBank b s).pins = s.pins ∧ (freeBank b s).csc = s.csc ∧ (freeBank b s).alc = s.alc ∧ (freeBank b s).slc = s.slc ∧
    (freeBank b s).imn = s.imn ∧ (freeBank b s).bhc = s.bhc ∧ (freeBank b s).sfe = s.sfe ∧ (freeBank b s).ble = s.ble ∧
    (freeBank b s).asm = s.asm ∧ (freeBank b s).mtr = s.mtr ∧ (freeBank b s).ttc = s.ttc ∧ (freeBank b s).vp = s.vp ∧
    (freeBank b s).fp = s.fp ∧ (freeBank b s).sel = s.sel ∧ (freeBank b s).pending = s.pending := by
  unfold freeBank; simp

@[simp] theorem takeUnrecordedCopy_frame (s : State) :
    (takeUnrecordedCopy s).pins = s.pins ∧ (takeUnrecordedCopy s).csc = s.csc ∧ (takeUnrecordedCopy s).alc = s.alc ∧
    (takeUnrecordedCopy s).slc = s.slc ∧ (takeUnrecordedCopy s).imn = s.imn ∧ (takeUnrecordedCopy s).bhc = s.bhc ∧
    (takeUnrecordedCopy s).sfe = s.sfe ∧ (takeUnrecordedCopy s).ble = s.ble ∧ (takeUnrecordedCopy s).asm = s.asm ∧
    (takeUnrecordedCopy s).mtr = s.mtr ∧ (takeUnrecordedCopy s).ttc = s.ttc ∧ (takeUnrecordedCopy s).vp = s.vp ∧
    (takeUnrecordedCopy s).fp = s.fp ∧ (takeUnrecordedCopy s).sel = s.sel ∧ (takeUnrecordedCopy s).pending = s.pending := by
  unfold takeUnrecordedCopy; simp

@[simp] theorem clearUnrecorded_frame (s : State) :
    (clearUnrecorded s).pins = s.pins ∧ (clearUnrecorded s).csc = s.csc ∧ (clearUnrecorded s).alc = s.alc ∧
    (clearUnrecorded s).slc = s.slc ∧ (clearUnrecorded s).imn = s.imn ∧ (clearUnrecorded s).bhc = s.bhc ∧
    (clearUnrecorded s).sfe = s.sfe ∧ (clearUnrecorded s).ble = s.ble ∧ (clearUnrecorded s).asm = s.asm ∧
    (clearUnrecorded s).mtr = s.mtr ∧ (clearUnrecorded s).ttc = s.ttc ∧ (clearUnrecorded s).vp = s.vp ∧
    (clearUnrecorded s).fp = s.fp ∧ (clearUnrecorded s).sel = s.sel ∧ (clearUnrecorded s).pending = s.pending := by
  unfold clearUnrecorded; simp

@[simp] theorem setCursor_frame (p : Port) (c : Cursor) (s : State) :
    (setCursor p c s).pins = s.pins ∧ (setCursor p c s).csc = s.csc ∧ (setCursor p c s).alc = s.alc ∧
    (setCursor p c s).slc = s.slc ∧ (setCursor p c s).imn = s.imn ∧ (setCursor p c s).bhc = s.bhc ∧
    (setCursor p c s).sfe = s.sfe ∧ (setCursor p c s).ble = s.ble ∧ (setCursor p c s).asm = s.asm ∧
    (setCursor p c s).mtr = s.mtr ∧ (setCursor p c s).ttc = s.ttc ∧ (setCursor p c s).vp = s.vp ∧
    (setCursor p c s).fp = s.fp ∧ (setCursor p c s).sel = s.sel ∧ (setCursor p c s).pending = s.pending := by
  unfold setCursor; split <;> simp

/-! ### Machine/Tariff.lean -/

@[simp] theorem setClock_frame (new : ClockTime) (source : TimeSource) (s : State) :
    (setClock new source s).pins = s.pins ∧ (setClock new source s).csc = s.csc ∧ (setClock new source s).alc = s.alc ∧
    (setClock new source s).slc = s.slc ∧ (setClock new source s).imn = s.imn ∧ (setClock new source s).bhc = s.bhc ∧
    (setClock new source s).sfe = s.sfe ∧ (setClock new source s).ble = s.ble ∧ (setClock new source s).asm = s.asm ∧
    (setClock new source s).mtr = s.mtr ∧ (setClock new source s).vp = s.vp ∧ (setClock new source s).fp = s.fp ∧
    (setClock new source s).sel = s.sel ∧ (setClock new source s).pending = s.pending := by
  unfold setClock; dsimp only; split <;> simp

@[simp] theorem stationTime_frame (day second : Nat) (s : State) :
    (stationTime day second s).pins = s.pins ∧ (stationTime day second s).csc = s.csc ∧
    (stationTime day second s).alc = s.alc ∧ (stationTime day second s).slc = s.slc ∧ (stationTime day second s).imn = s.imn ∧
    (stationTime day second s).bhc = s.bhc ∧ (stationTime day second s).sfe = s.sfe ∧ (stationTime day second s).ble = s.ble ∧
    (stationTime day second s).asm = s.asm ∧ (stationTime day second s).mtr = s.mtr ∧ (stationTime day second s).vp = s.vp ∧
    (stationTime day second s).fp = s.fp ∧ (stationTime day second s).sel = s.sel ∧
    (stationTime day second s).pending = s.pending := by
  unfold stationTime; split <;> simp

@[simp] theorem fleetTime_frame (s : State) :
    (fleetTime s).pins = s.pins ∧ (fleetTime s).csc = s.csc ∧ (fleetTime s).alc = s.alc ∧ (fleetTime s).slc = s.slc ∧
    (fleetTime s).imn = s.imn ∧ (fleetTime s).bhc = s.bhc ∧ (fleetTime s).sfe = s.sfe ∧ (fleetTime s).ble = s.ble ∧
    (fleetTime s).asm = s.asm ∧ (fleetTime s).mtr = s.mtr ∧ (fleetTime s).vp = s.vp ∧ (fleetTime s).fp = s.fp ∧
    (fleetTime s).sel = s.sel ∧ (fleetTime s).pending = s.pending := by
  unfold fleetTime; simp

@[simp] theorem tariffCommitNow_frame (s : State) :
    (tariffCommitNow s).pins = s.pins ∧ (tariffCommitNow s).csc = s.csc ∧ (tariffCommitNow s).alc = s.alc ∧
    (tariffCommitNow s).slc = s.slc ∧ (tariffCommitNow s).imn = s.imn ∧ (tariffCommitNow s).bhc = s.bhc ∧
    (tariffCommitNow s).sfe = s.sfe ∧ (tariffCommitNow s).ble = s.ble ∧ (tariffCommitNow s).asm = s.asm ∧
    (tariffCommitNow s).mtr = s.mtr ∧ (tariffCommitNow s).vp = s.vp ∧ (tariffCommitNow s).sel = s.sel ∧
    (tariffCommitNow s).pending = s.pending := by
  unfold tariffCommitNow; split <;> simp

/-! ### Machine/Line.lean -/

@[simp] theorem scheduleFrame_frame (k : TxKind) (payload : List Byte) (s : State) :
    (scheduleFrame k payload s).pins = s.pins ∧ (scheduleFrame k payload s).csc = s.csc ∧
    (scheduleFrame k payload s).alc = s.alc ∧ (scheduleFrame k payload s).imn = s.imn ∧
    (scheduleFrame k payload s).bhc = s.bhc ∧ (scheduleFrame k payload s).sfe = s.sfe ∧
    (scheduleFrame k payload s).ble = s.ble ∧ (scheduleFrame k payload s).asm = s.asm ∧
    (scheduleFrame k payload s).mtr = s.mtr ∧ (scheduleFrame k payload s).ttc = s.ttc ∧
    (scheduleFrame k payload s).brs = s.brs ∧ (scheduleFrame k payload s).vp = s.vp ∧ (scheduleFrame k payload s).fp = s.fp ∧
    (scheduleFrame k payload s).sel = s.sel ∧ (scheduleFrame k payload s).pending = s.pending := by
  unfold scheduleFrame; simp

@[simp] theorem scheduleRequest_frame (s : State) :
    (scheduleRequest s).pins = s.pins ∧ (scheduleRequest s).alc = s.alc ∧ (scheduleRequest s).imn = s.imn ∧
    (scheduleRequest s).bhc = s.bhc ∧ (scheduleRequest s).sfe = s.sfe ∧ (scheduleRequest s).ble = s.ble ∧
    (scheduleRequest s).asm = s.asm ∧ (scheduleRequest s).mtr = s.mtr ∧ (scheduleRequest s).ttc = s.ttc ∧
    (scheduleRequest s).brs = s.brs ∧ (scheduleRequest s).vp = s.vp ∧ (scheduleRequest s).fp = s.fp ∧
    (scheduleRequest s).sel = s.sel ∧ (scheduleRequest s).pending = s.pending := by
  unfold scheduleRequest; simp

@[simp] theorem reboundRequest_frame (s : State) :
    (reboundRequest s).pins = s.pins ∧ (reboundRequest s).alc = s.alc ∧ (reboundRequest s).imn = s.imn ∧
    (reboundRequest s).bhc = s.bhc ∧ (reboundRequest s).sfe = s.sfe ∧ (reboundRequest s).ble = s.ble ∧
    (reboundRequest s).asm = s.asm ∧ (reboundRequest s).mtr = s.mtr ∧ (reboundRequest s).ttc = s.ttc ∧
    (reboundRequest s).brs = s.brs ∧ (reboundRequest s).vp = s.vp ∧ (reboundRequest s).fp = s.fp ∧
    (reboundRequest s).sel = s.sel ∧ (reboundRequest s).pending = s.pending := by
  unfold reboundRequest; split <;> simp

@[simp] theorem scheduleMeter_frame (n : Nat) (s : State) :
    (scheduleMeter n s).pins = s.pins ∧ (scheduleMeter n s).csc = s.csc ∧ (scheduleMeter n s).alc = s.alc ∧
    (scheduleMeter n s).imn = s.imn ∧ (scheduleMeter n s).bhc = s.bhc ∧ (scheduleMeter n s).sfe = s.sfe ∧
    (scheduleMeter n s).ble = s.ble ∧ (scheduleMeter n s).asm = s.asm ∧ (scheduleMeter n s).mtr = s.mtr ∧
    (scheduleMeter n s).ttc = s.ttc ∧ (scheduleMeter n s).brs = s.brs ∧ (scheduleMeter n s).vp = s.vp ∧
    (scheduleMeter n s).fp = s.fp ∧ (scheduleMeter n s).sel = s.sel ∧ (scheduleMeter n s).pending = s.pending := by
  unfold scheduleMeter; simp

@[simp] theorem scheduleStatus_frame (s : State) :
    (scheduleStatus s).pins = s.pins ∧ (scheduleStatus s).alc = s.alc ∧ (scheduleStatus s).imn = s.imn ∧
    (scheduleStatus s).bhc = s.bhc ∧ (scheduleStatus s).sfe = s.sfe ∧ (scheduleStatus s).ble = s.ble ∧
    (scheduleStatus s).asm = s.asm ∧ (scheduleStatus s).mtr = s.mtr ∧ (scheduleStatus s).ttc = s.ttc ∧
    (scheduleStatus s).brs = s.brs ∧ (scheduleStatus s).vp = s.vp ∧ (scheduleStatus s).fp = s.fp ∧
    (scheduleStatus s).sel = s.sel ∧ (scheduleStatus s).pending = s.pending := by
  unfold scheduleStatus; simp

@[simp] theorem scheduleHello_frame (s : State) :
    (scheduleHello s).pins = s.pins ∧ (scheduleHello s).csc = s.csc ∧ (scheduleHello s).alc = s.alc ∧
    (scheduleHello s).imn = s.imn ∧ (scheduleHello s).bhc = s.bhc ∧ (scheduleHello s).sfe = s.sfe ∧
    (scheduleHello s).ble = s.ble ∧ (scheduleHello s).asm = s.asm ∧ (scheduleHello s).mtr = s.mtr ∧
    (scheduleHello s).ttc = s.ttc ∧ (scheduleHello s).brs = s.brs ∧ (scheduleHello s).vp = s.vp ∧
    (scheduleHello s).fp = s.fp ∧ (scheduleHello s).sel = s.sel ∧ (scheduleHello s).pending = s.pending := by
  unfold scheduleHello; simp

@[simp] theorem scheduleStop_frame (code : Nat) (s : State) :
    (scheduleStop code s).pins = s.pins ∧ (scheduleStop code s).csc = s.csc ∧ (scheduleStop code s).alc = s.alc ∧
    (scheduleStop code s).imn = s.imn ∧ (scheduleStop code s).bhc = s.bhc ∧ (scheduleStop code s).sfe = s.sfe ∧
    (scheduleStop code s).ble = s.ble ∧ (scheduleStop code s).asm = s.asm ∧ (scheduleStop code s).mtr = s.mtr ∧
    (scheduleStop code s).ttc = s.ttc ∧ (scheduleStop code s).brs = s.brs ∧ (scheduleStop code s).vp = s.vp ∧
    (scheduleStop code s).fp = s.fp ∧ (scheduleStop code s).sel = s.sel ∧
    (scheduleStop code s).pending = s.pending := by
  unfold scheduleStop; simp

@[simp] theorem noteError_frame (e : LineError) (s : State) :
    (noteError e s).pins = s.pins ∧
    (noteError e s).csc = s.csc ∧ (noteError e s).alc = s.alc ∧ (noteError e s).imn = s.imn ∧ (noteError e s).bhc = s.bhc ∧
    (noteError e s).sfe = s.sfe ∧ (noteError e s).ble = s.ble ∧ (noteError e s).asm = s.asm ∧ (noteError e s).mtr = s.mtr ∧
    (noteError e s).ttc = s.ttc ∧ (noteError e s).brs = s.brs ∧ (noteError e s).fp = s.fp ∧ (noteError e s).sel = s.sel ∧
    (noteError e s).pending = s.pending := by
  unfold noteError; simp

/-! ### Machine/Heater.lean -/

@[simp] theorem lockHeater_frame (c : LockCause) (s : State) :
    (lockHeater c s).pins = s.pins ∧ (lockHeater c s).csc = s.csc ∧ (lockHeater c s).alc = s.alc ∧
    (lockHeater c s).slc = s.slc ∧ (lockHeater c s).imn = s.imn ∧ (lockHeater c s).sfe = s.sfe ∧
    (lockHeater c s).ble = s.ble ∧ (lockHeater c s).asm = s.asm ∧ (lockHeater c s).mtr = s.mtr ∧
    (lockHeater c s).ttc = s.ttc ∧ (lockHeater c s).fp = s.fp ∧ (lockHeater c s).sel = s.sel ∧
    (lockHeater c s).pending = s.pending := by
  unfold lockHeater; dsimp only; split <;> simp

@[simp] theorem requestUnlockIfDue_frame (s : State) :
    (requestUnlockIfDue s).pins = s.pins ∧ (requestUnlockIfDue s).csc = s.csc ∧ (requestUnlockIfDue s).alc = s.alc ∧
    (requestUnlockIfDue s).slc = s.slc ∧ (requestUnlockIfDue s).sfe = s.sfe ∧ (requestUnlockIfDue s).ble = s.ble ∧
    (requestUnlockIfDue s).asm = s.asm ∧ (requestUnlockIfDue s).mtr = s.mtr ∧ (requestUnlockIfDue s).ttc = s.ttc ∧
    (requestUnlockIfDue s).brs = s.brs ∧ (requestUnlockIfDue s).vp = s.vp ∧ (requestUnlockIfDue s).fp = s.fp ∧
    (requestUnlockIfDue s).sel = s.sel ∧ (requestUnlockIfDue s).pending = s.pending := by
  unfold requestUnlockIfDue; split <;> simp

@[simp] theorem releaseHeater_frame (s : State) :
    (releaseHeater s).pins = s.pins ∧ (releaseHeater s).csc = s.csc ∧ (releaseHeater s).alc = s.alc ∧
    (releaseHeater s).slc = s.slc ∧ (releaseHeater s).sfe = s.sfe ∧ (releaseHeater s).ble = s.ble ∧
    (releaseHeater s).asm = s.asm ∧ (releaseHeater s).mtr = s.mtr ∧ (releaseHeater s).ttc = s.ttc ∧
    (releaseHeater s).brs = s.brs ∧ (releaseHeater s).vp = s.vp ∧ (releaseHeater s).fp = s.fp ∧
    (releaseHeater s).sel = s.sel ∧ (releaseHeater s).pending = s.pending := by
  unfold releaseHeater; simp

@[simp] theorem heaterBranchFault_frame (s : State) :
    (heaterBranchFault s).pins = s.pins ∧ (heaterBranchFault s).csc = s.csc ∧ (heaterBranchFault s).alc = s.alc ∧
    (heaterBranchFault s).slc = s.slc ∧ (heaterBranchFault s).imn = s.imn ∧ (heaterBranchFault s).sfe = s.sfe ∧
    (heaterBranchFault s).ble = s.ble ∧ (heaterBranchFault s).asm = s.asm ∧ (heaterBranchFault s).mtr = s.mtr ∧
    (heaterBranchFault s).ttc = s.ttc ∧ (heaterBranchFault s).fp = s.fp ∧ (heaterBranchFault s).sel = s.sel ∧
    (heaterBranchFault s).pending = s.pending := by
  unfold heaterBranchFault; simp

@[simp] theorem answerUnlock_frame (passed : Bool) (s : State) :
    (answerUnlock passed s).pins = s.pins ∧ (answerUnlock passed s).csc = s.csc ∧ (answerUnlock passed s).alc = s.alc ∧
    (answerUnlock passed s).slc = s.slc ∧ (answerUnlock passed s).imn = s.imn ∧ (answerUnlock passed s).sfe = s.sfe ∧
    (answerUnlock passed s).ble = s.ble ∧ (answerUnlock passed s).asm = s.asm ∧ (answerUnlock passed s).mtr = s.mtr ∧
    (answerUnlock passed s).ttc = s.ttc ∧ (answerUnlock passed s).fp = s.fp ∧ (answerUnlock passed s).sel = s.sel ∧
    (answerUnlock passed s).pending = s.pending := by
  unfold answerUnlock; (repeat' split) <;> simp

@[simp] theorem overdrawTest_frame (p : PeriodResult) (s : State) :
    (overdrawTest p s).pins = s.pins ∧ (overdrawTest p s).csc = s.csc ∧ (overdrawTest p s).alc = s.alc ∧
    (overdrawTest p s).slc = s.slc ∧ (overdrawTest p s).imn = s.imn ∧ (overdrawTest p s).sfe = s.sfe ∧
    (overdrawTest p s).ble = s.ble ∧ (overdrawTest p s).asm = s.asm ∧ (overdrawTest p s).mtr = s.mtr ∧
    (overdrawTest p s).ttc = s.ttc ∧ (overdrawTest p s).fp = s.fp ∧ (overdrawTest p s).sel = s.sel ∧
    (overdrawTest p s).pending = s.pending := by
  unfold overdrawTest; dsimp only; (repeat' split) <;> simp

@[simp] theorem runAllowanceTest_frame (p : PeriodResult) (s : State) :
    (runAllowanceTest p s).pins = s.pins ∧ (runAllowanceTest p s).csc = s.csc ∧ (runAllowanceTest p s).alc = s.alc ∧
    (runAllowanceTest p s).slc = s.slc ∧ (runAllowanceTest p s).imn = s.imn ∧ (runAllowanceTest p s).sfe = s.sfe ∧
    (runAllowanceTest p s).ble = s.ble ∧ (runAllowanceTest p s).asm = s.asm ∧ (runAllowanceTest p s).mtr = s.mtr ∧
    (runAllowanceTest p s).ttc = s.ttc ∧ (runAllowanceTest p s).brs = s.brs ∧ (runAllowanceTest p s).fp = s.fp ∧
    (runAllowanceTest p s).sel = s.sel ∧ (runAllowanceTest p s).pending = s.pending := by
  unfold runAllowanceTest; (repeat' split) <;> simp

@[simp] theorem heaterTakesResultCore_frame (p : PeriodResult) (s : State) :
    (heaterTakesResultCore p s).pins = s.pins ∧ (heaterTakesResultCore p s).csc = s.csc ∧
    (heaterTakesResultCore p s).alc = s.alc ∧ (heaterTakesResultCore p s).slc = s.slc ∧
    (heaterTakesResultCore p s).imn = s.imn ∧ (heaterTakesResultCore p s).sfe = s.sfe ∧
    (heaterTakesResultCore p s).ble = s.ble ∧ (heaterTakesResultCore p s).asm = s.asm ∧
    (heaterTakesResultCore p s).mtr = s.mtr ∧ (heaterTakesResultCore p s).ttc = s.ttc ∧
    (heaterTakesResultCore p s).fp = s.fp ∧ (heaterTakesResultCore p s).sel = s.sel ∧
    (heaterTakesResultCore p s).pending = s.pending := by
  unfold heaterTakesResultCore; split <;> simp

@[simp] theorem heaterSupplyFailCore_frame (s : State) :
    (heaterSupplyFailCore s).pins = s.pins ∧ (heaterSupplyFailCore s).csc = s.csc ∧ (heaterSupplyFailCore s).alc = s.alc ∧
    (heaterSupplyFailCore s).slc = s.slc ∧ (heaterSupplyFailCore s).imn = s.imn ∧ (heaterSupplyFailCore s).sfe = s.sfe ∧
    (heaterSupplyFailCore s).ble = s.ble ∧ (heaterSupplyFailCore s).asm = s.asm ∧ (heaterSupplyFailCore s).mtr = s.mtr ∧
    (heaterSupplyFailCore s).ttc = s.ttc ∧ (heaterSupplyFailCore s).fp = s.fp ∧ (heaterSupplyFailCore s).sel = s.sel ∧
    (heaterSupplyFailCore s).pending = s.pending := by
  unfold heaterSupplyFailCore; split <;> simp

/-! ### Machine/Insulation.lean -/

@[simp] theorem imnIdle_frame (s : State) :
    (imnIdle s).pins = s.pins ∧ (imnIdle s).csc = s.csc ∧ (imnIdle s).alc = s.alc ∧ (imnIdle s).slc = s.slc ∧
    (imnIdle s).bhc = s.bhc ∧ (imnIdle s).sfe = s.sfe ∧ (imnIdle s).ble = s.ble ∧ (imnIdle s).asm = s.asm ∧
    (imnIdle s).mtr = s.mtr ∧ (imnIdle s).ttc = s.ttc ∧ (imnIdle s).brs = s.brs ∧ (imnIdle s).vp = s.vp ∧
    (imnIdle s).fp = s.fp ∧ (imnIdle s).sel = s.sel ∧ (imnIdle s).pending = s.pending := by
  unfold imnIdle; simp

@[simp] theorem requestCheck_frame (s : State) :
    (requestCheck s).pins = s.pins ∧ (requestCheck s).csc = s.csc ∧ (requestCheck s).alc = s.alc ∧
    (requestCheck s).slc = s.slc ∧ (requestCheck s).bhc = s.bhc ∧ (requestCheck s).sfe = s.sfe ∧
    (requestCheck s).ble = s.ble ∧ (requestCheck s).asm = s.asm ∧ (requestCheck s).mtr = s.mtr ∧
    (requestCheck s).ttc = s.ttc ∧ (requestCheck s).brs = s.brs ∧ (requestCheck s).vp = s.vp ∧ (requestCheck s).fp = s.fp ∧
    (requestCheck s).sel = s.sel ∧ (requestCheck s).pending = s.pending := by
  unfold requestCheck; simp

@[simp] theorem withdrawCheck_frame (s : State) :
    (withdrawCheck s).pins = s.pins ∧ (withdrawCheck s).csc = s.csc ∧ (withdrawCheck s).alc = s.alc ∧
    (withdrawCheck s).slc = s.slc ∧ (withdrawCheck s).bhc = s.bhc ∧ (withdrawCheck s).sfe = s.sfe ∧
    (withdrawCheck s).ble = s.ble ∧ (withdrawCheck s).asm = s.asm ∧ (withdrawCheck s).mtr = s.mtr ∧
    (withdrawCheck s).ttc = s.ttc ∧ (withdrawCheck s).brs = s.brs ∧ (withdrawCheck s).vp = s.vp ∧
    (withdrawCheck s).fp = s.fp ∧ (withdrawCheck s).sel = s.sel ∧ (withdrawCheck s).pending = s.pending := by
  unfold withdrawCheck; simp

@[simp] theorem openWindow_frame (s : State) :
    (openWindow s).pins = s.pins ∧ (openWindow s).csc = s.csc ∧ (openWindow s).slc = s.slc ∧ (openWindow s).imn = s.imn ∧
    (openWindow s).sfe = s.sfe ∧ (openWindow s).ble = s.ble ∧ (openWindow s).asm = s.asm ∧ (openWindow s).mtr = s.mtr ∧
    (openWindow s).ttc = s.ttc ∧ (openWindow s).brs = s.brs ∧ (openWindow s).vp = s.vp ∧ (openWindow s).fp = s.fp ∧
    (openWindow s).sel = s.sel ∧ (openWindow s).pending = s.pending := by
  unfold openWindow; simp

@[simp] theorem closeWindow_frame (s : State) :
    (closeWindow s).pins = s.pins ∧ (closeWindow s).csc = s.csc ∧ (closeWindow s).slc = s.slc ∧ (closeWindow s).sfe = s.sfe ∧
    (closeWindow s).ble = s.ble ∧ (closeWindow s).asm = s.asm ∧ (closeWindow s).mtr = s.mtr ∧ (closeWindow s).ttc = s.ttc ∧
    (closeWindow s).brs = s.brs ∧ (closeWindow s).vp = s.vp ∧ (closeWindow s).fp = s.fp ∧ (closeWindow s).sel = s.sel ∧
    (closeWindow s).pending = s.pending := by
  unfold closeWindow; simp

@[simp] theorem answerUnlockCycle_frame (passed : Bool) (s : State) :
    (answerUnlockCycle passed s).pins = s.pins ∧ (answerUnlockCycle passed s).csc = s.csc ∧
    (answerUnlockCycle passed s).alc = s.alc ∧ (answerUnlockCycle passed s).slc = s.slc ∧
    (answerUnlockCycle passed s).sfe = s.sfe ∧ (answerUnlockCycle passed s).ble = s.ble ∧
    (answerUnlockCycle passed s).asm = s.asm ∧ (answerUnlockCycle passed s).mtr = s.mtr ∧
    (answerUnlockCycle passed s).ttc = s.ttc ∧ (answerUnlockCycle passed s).fp = s.fp ∧
    (answerUnlockCycle passed s).sel = s.sel ∧ (answerUnlockCycle passed s).pending = s.pending := by
  unfold answerUnlockCycle; simp

@[simp] theorem retestDisturbed_frame (s : State) :
    (retestDisturbed s).pins = s.pins ∧ (retestDisturbed s).csc = s.csc ∧ (retestDisturbed s).alc = s.alc ∧
    (retestDisturbed s).slc = s.slc ∧ (retestDisturbed s).bhc = s.bhc ∧ (retestDisturbed s).sfe = s.sfe ∧
    (retestDisturbed s).ble = s.ble ∧ (retestDisturbed s).asm = s.asm ∧ (retestDisturbed s).mtr = s.mtr ∧
    (retestDisturbed s).ttc = s.ttc ∧ (retestDisturbed s).brs = s.brs ∧ (retestDisturbed s).fp = s.fp ∧
    (retestDisturbed s).sel = s.sel ∧ (retestDisturbed s).pending = s.pending := by
  unfold retestDisturbed; (repeat' split) <;> simp

@[simp] theorem endDisturbedKind_frame (s : State) :
    (endDisturbedKind s).pins = s.pins ∧ (endDisturbedKind s).csc = s.csc ∧ (endDisturbedKind s).alc = s.alc ∧
    (endDisturbedKind s).slc = s.slc ∧ (endDisturbedKind s).sfe = s.sfe ∧ (endDisturbedKind s).ble = s.ble ∧
    (endDisturbedKind s).asm = s.asm ∧ (endDisturbedKind s).mtr = s.mtr ∧ (endDisturbedKind s).ttc = s.ttc ∧
    (endDisturbedKind s).fp = s.fp ∧ (endDisturbedKind s).sel = s.sel ∧ (endDisturbedKind s).pending = s.pending := by
  unfold endDisturbedKind; split <;> simp

@[simp] theorem quiesce_frame (s : State) :
    (quiesce s).pins = s.pins ∧ (quiesce s).csc = s.csc ∧ (quiesce s).alc = s.alc ∧ (quiesce s).slc = s.slc ∧
    (quiesce s).bhc = s.bhc ∧ (quiesce s).sfe = s.sfe ∧ (quiesce s).ble = s.ble ∧ (quiesce s).asm = s.asm ∧
    (quiesce s).mtr = s.mtr ∧ (quiesce s).ttc = s.ttc ∧ (quiesce s).brs = s.brs ∧ (quiesce s).vp = s.vp ∧
    (quiesce s).fp = s.fp ∧ (quiesce s).sel = s.sel ∧ (quiesce s).pending = s.pending := by
  unfold quiesce; simp

@[simp] theorem completeDisturbed_frame (s : State) :
    (completeDisturbed s).pins = s.pins ∧ (completeDisturbed s).csc = s.csc ∧ (completeDisturbed s).alc = s.alc ∧
    (completeDisturbed s).slc = s.slc ∧ (completeDisturbed s).sfe = s.sfe ∧ (completeDisturbed s).ble = s.ble ∧
    (completeDisturbed s).asm = s.asm ∧ (completeDisturbed s).mtr = s.mtr ∧ (completeDisturbed s).ttc = s.ttc ∧
    (completeDisturbed s).fp = s.fp ∧ (completeDisturbed s).sel = s.sel ∧ (completeDisturbed s).pending = s.pending := by
  unfold completeDisturbed; simp

@[simp] theorem takeNotice_frame (s : State) :
    (takeNotice s).pins = s.pins ∧ (takeNotice s).csc = s.csc ∧ (takeNotice s).slc = s.slc ∧ (takeNotice s).sfe = s.sfe ∧
    (takeNotice s).ble = s.ble ∧ (takeNotice s).asm = s.asm ∧ (takeNotice s).mtr = s.mtr ∧ (takeNotice s).ttc = s.ttc ∧
    (takeNotice s).fp = s.fp ∧ (takeNotice s).sel = s.sel ∧ (takeNotice s).pending = s.pending := by
  unfold takeNotice; dsimp only; (repeat' split) <;> simp

@[simp] theorem withNotice_frame (f : State → State) (s : State) :
    (withNotice f s).pins = (f s).pins ∧ (withNotice f s).csc = (f s).csc ∧ (withNotice f s).slc = (f s).slc ∧
    (withNotice f s).sfe = (f s).sfe ∧ (withNotice f s).ble = (f s).ble ∧ (withNotice f s).asm = (f s).asm ∧
    (withNotice f s).mtr = (f s).mtr ∧ (withNotice f s).ttc = (f s).ttc ∧ (withNotice f s).fp = (f s).fp ∧
    (withNotice f s).sel = (f s).sel ∧ (withNotice f s).pending = (f s).pending := by
  unfold withNotice; split <;> simp

@[simp] theorem heaterMove_frame (f : Bhc → Bhc) (s : State) :
    (heaterMove f s).pins = s.pins ∧ (heaterMove f s).csc = s.csc ∧ (heaterMove f s).slc = s.slc ∧
    (heaterMove f s).sfe = s.sfe ∧ (heaterMove f s).ble = s.ble ∧ (heaterMove f s).asm = s.asm ∧
    (heaterMove f s).mtr = s.mtr ∧ (heaterMove f s).ttc = s.ttc ∧ (heaterMove f s).fp = s.fp ∧ (heaterMove f s).sel = s.sel ∧
    (heaterMove f s).pending = s.pending := by
  unfold heaterMove; simp

@[simp] theorem abandonCycle_frame (s : State) :
    (abandonCycle s).pins = s.pins ∧ (abandonCycle s).csc = s.csc ∧ (abandonCycle s).slc = s.slc ∧
    (abandonCycle s).sfe = s.sfe ∧ (abandonCycle s).ble = s.ble ∧ (abandonCycle s).asm = s.asm ∧
    (abandonCycle s).mtr = s.mtr ∧ (abandonCycle s).ttc = s.ttc ∧ (abandonCycle s).fp = s.fp ∧ (abandonCycle s).sel = s.sel ∧
    (abandonCycle s).pending = s.pending := by
  unfold abandonCycle; dsimp only; (repeat' split) <;> simp

@[simp] theorem imnPlugFall_frame (s : State) :
    (imnPlugFall s).pins = s.pins ∧ (imnPlugFall s).csc = s.csc ∧ (imnPlugFall s).slc = s.slc ∧ (imnPlugFall s).sfe = s.sfe ∧
    (imnPlugFall s).ble = s.ble ∧ (imnPlugFall s).asm = s.asm ∧ (imnPlugFall s).mtr = s.mtr ∧ (imnPlugFall s).ttc = s.ttc ∧
    (imnPlugFall s).fp = s.fp ∧ (imnPlugFall s).sel = s.sel ∧ (imnPlugFall s).pending = s.pending := by
  unfold imnPlugFall; split <;> simp

@[simp] theorem imnTakesResult_frame (p : PeriodResult) (s : State) :
    (imnTakesResult p s).pins = s.pins ∧ (imnTakesResult p s).csc = s.csc ∧ (imnTakesResult p s).slc = s.slc ∧
    (imnTakesResult p s).sfe = s.sfe ∧ (imnTakesResult p s).ble = s.ble ∧ (imnTakesResult p s).asm = s.asm ∧
    (imnTakesResult p s).mtr = s.mtr ∧ (imnTakesResult p s).ttc = s.ttc ∧ (imnTakesResult p s).fp = s.fp ∧
    (imnTakesResult p s).sel = s.sel ∧ (imnTakesResult p s).pending = s.pending := by
  unfold imnTakesResult; (repeat' split) <;> simp

@[simp] theorem triggerBranch_frame (minimum limit : Int) (s : State) :
    (triggerBranch minimum limit s).pins = s.pins ∧ (triggerBranch minimum limit s).csc = s.csc ∧
    (triggerBranch minimum limit s).alc = s.alc ∧ (triggerBranch minimum limit s).slc = s.slc ∧
    (triggerBranch minimum limit s).sfe = s.sfe ∧ (triggerBranch minimum limit s).ble = s.ble ∧
    (triggerBranch minimum limit s).asm = s.asm ∧ (triggerBranch minimum limit s).mtr = s.mtr ∧
    (triggerBranch minimum limit s).ttc = s.ttc ∧ (triggerBranch minimum limit s).brs = s.brs ∧
    (triggerBranch minimum limit s).vp = s.vp ∧ (triggerBranch minimum limit s).fp = s.fp ∧
    (triggerBranch minimum limit s).sel = s.sel ∧ (triggerBranch minimum limit s).pending = s.pending := by
  unfold triggerBranch; dsimp only; split <;> simp

/-! ### Machine/Allocator.lean -/

@[simp] theorem cutSetpoint_frame (s : State) :
    (cutSetpoint s).pins = s.pins ∧ (cutSetpoint s).csc = s.csc ∧ (cutSetpoint s).slc = s.slc ∧ (cutSetpoint s).sfe = s.sfe ∧
    (cutSetpoint s).ble = s.ble ∧ (cutSetpoint s).asm = s.asm ∧ (cutSetpoint s).mtr = s.mtr ∧ (cutSetpoint s).ttc = s.ttc ∧
    (cutSetpoint s).fp = s.fp ∧ (cutSetpoint s).sel = s.sel ∧ (cutSetpoint s).pending = s.pending := by
  unfold cutSetpoint; dsimp only; split <;> simp

@[simp] theorem handGrant_frame (g : Nat) (s : State) :
    (handGrant g s).pins = s.pins ∧ (handGrant g s).csc = s.csc ∧ (handGrant g s).slc = s.slc ∧ (handGrant g s).sfe = s.sfe ∧
    (handGrant g s).ble = s.ble ∧ (handGrant g s).asm = s.asm ∧ (handGrant g s).mtr = s.mtr ∧ (handGrant g s).ttc = s.ttc ∧
    (handGrant g s).fp = s.fp ∧ (handGrant g s).sel = s.sel ∧ (handGrant g s).pending = s.pending := by
  unfold handGrant; simp

@[simp] theorem stopAllocation_frame (s : State) :
    (stopAllocation s).pins = s.pins ∧ (stopAllocation s).csc = s.csc ∧ (stopAllocation s).slc = s.slc ∧
    (stopAllocation s).sfe = s.sfe ∧ (stopAllocation s).ble = s.ble ∧ (stopAllocation s).asm = s.asm ∧
    (stopAllocation s).mtr = s.mtr ∧ (stopAllocation s).ttc = s.ttc ∧ (stopAllocation s).fp = s.fp ∧
    (stopAllocation s).sel = s.sel ∧ (stopAllocation s).pending = s.pending := by
  unfold stopAllocation; dsimp only; (repeat' split) <;> simp

/-! ### Machine/Meter.lean -/

@[simp] theorem startPeriod_frame (s : State) :
    (startPeriod s).pins = s.pins ∧ (startPeriod s).csc = s.csc ∧ (startPeriod s).alc = s.alc ∧ (startPeriod s).slc = s.slc ∧
    (startPeriod s).imn = s.imn ∧ (startPeriod s).bhc = s.bhc ∧ (startPeriod s).sfe = s.sfe ∧ (startPeriod s).ble = s.ble ∧
    (startPeriod s).asm = s.asm ∧ (startPeriod s).ttc = s.ttc ∧ (startPeriod s).brs = s.brs ∧ (startPeriod s).vp = s.vp ∧
    (startPeriod s).fp = s.fp ∧ (startPeriod s).sel = s.sel ∧ (startPeriod s).pending = s.pending := by
  unfold startPeriod; simp

/-! ### Machine/Session.lean -/

@[simp] theorem enterSession_frame (n : Session) (s : State) :
    (enterSession n s).pins = s.pins ∧ (enterSession n s).slc = s.slc ∧ (enterSession n s).sfe = s.sfe ∧
    (enterSession n s).ble = s.ble ∧ (enterSession n s).asm = s.asm ∧ (enterSession n s).mtr = s.mtr ∧
    (enterSession n s).ttc = s.ttc ∧ (enterSession n s).fp = s.fp ∧ (enterSession n s).sel = s.sel ∧
    (enterSession n s).pending = s.pending := by
  unfold enterSession; dsimp only; (repeat' split) <;> simp

@[simp] theorem loadSlot0_frame (outlet : Nat) (s : State) :
    (loadSlot0 outlet s).pins = s.pins ∧ (loadSlot0 outlet s).csc = s.csc ∧ (loadSlot0 outlet s).alc = s.alc ∧
    (loadSlot0 outlet s).imn = s.imn ∧ (loadSlot0 outlet s).bhc = s.bhc ∧ (loadSlot0 outlet s).sfe = s.sfe ∧
    (loadSlot0 outlet s).ble = s.ble ∧ (loadSlot0 outlet s).asm = s.asm ∧ (loadSlot0 outlet s).mtr = s.mtr ∧
    (loadSlot0 outlet s).ttc = s.ttc ∧ (loadSlot0 outlet s).brs = s.brs ∧ (loadSlot0 outlet s).vp = s.vp ∧
    (loadSlot0 outlet s).fp = s.fp ∧ (loadSlot0 outlet s).sel = s.sel ∧ (loadSlot0 outlet s).pending = s.pending := by
  unfold loadSlot0; simp

@[simp] theorem sendHello_frame (s : State) :
    (sendHello s).pins = s.pins ∧ (sendHello s).alc = s.alc ∧ (sendHello s).imn = s.imn ∧ (sendHello s).bhc = s.bhc ∧
    (sendHello s).sfe = s.sfe ∧ (sendHello s).ble = s.ble ∧ (sendHello s).asm = s.asm ∧ (sendHello s).mtr = s.mtr ∧
    (sendHello s).ttc = s.ttc ∧ (sendHello s).brs = s.brs ∧ (sendHello s).vp = s.vp ∧ (sendHello s).fp = s.fp ∧
    (sendHello s).sel = s.sel ∧ (sendHello s).pending = s.pending := by
  unfold sendHello; simp

@[simp] theorem enterLinking_frame (s : State) :
    (enterLinking s).pins = s.pins ∧ (enterLinking s).sfe = s.sfe ∧ (enterLinking s).ble = s.ble ∧
    (enterLinking s).asm = s.asm ∧ (enterLinking s).mtr = s.mtr ∧ (enterLinking s).ttc = s.ttc ∧ (enterLinking s).fp = s.fp ∧
    (enterLinking s).sel = s.sel ∧ (enterLinking s).pending = s.pending := by
  unfold enterLinking; simp

@[simp] theorem helloExpiry_frame (s : State) :
    (helloExpiry s).pins = s.pins ∧ (helloExpiry s).alc = s.alc ∧ (helloExpiry s).imn = s.imn ∧ (helloExpiry s).bhc = s.bhc ∧
    (helloExpiry s).sfe = s.sfe ∧ (helloExpiry s).ble = s.ble ∧ (helloExpiry s).asm = s.asm ∧ (helloExpiry s).mtr = s.mtr ∧
    (helloExpiry s).ttc = s.ttc ∧ (helloExpiry s).brs = s.brs ∧ (helloExpiry s).fp = s.fp ∧ (helloExpiry s).sel = s.sel ∧
    (helloExpiry s).pending = s.pending := by
  unfold helloExpiry; split <;> simp

@[simp] theorem followHolds_frame (s : State) :
    (followHolds s).pins = s.pins ∧ (followHolds s).slc = s.slc ∧ (followHolds s).sfe = s.sfe ∧ (followHolds s).ble = s.ble ∧
    (followHolds s).asm = s.asm ∧ (followHolds s).mtr = s.mtr ∧ (followHolds s).ttc = s.ttc ∧ (followHolds s).fp = s.fp ∧
    (followHolds s).sel = s.sel ∧ (followHolds s).pending = s.pending := by
  unfold followHolds; (repeat' split) <;> simp

@[simp] theorem changeHold_frame (r : HoldReason) (present : Bool) (s : State) :
    (changeHold r present s).pins = s.pins ∧ (changeHold r present s).sfe = s.sfe ∧ (changeHold r present s).ble = s.ble ∧
    (changeHold r present s).asm = s.asm ∧ (changeHold r present s).mtr = s.mtr ∧ (changeHold r present s).ttc = s.ttc ∧
    (changeHold r present s).fp = s.fp ∧ (changeHold r present s).sel = s.sel ∧
    (changeHold r present s).pending = s.pending := by
  unfold changeHold; dsimp only; (repeat' split) <;> simp

@[simp] theorem holdEvent_frame (changed : Bool) (s : State) :
    (holdEvent changed s).pins = s.pins ∧ (holdEvent changed s).csc = s.csc ∧ (holdEvent changed s).alc = s.alc ∧
    (holdEvent changed s).slc = s.slc ∧ (holdEvent changed s).imn = s.imn ∧ (holdEvent changed s).bhc = s.bhc ∧
    (holdEvent changed s).sfe = s.sfe ∧ (holdEvent changed s).ble = s.ble ∧ (holdEvent changed s).asm = s.asm ∧
    (holdEvent changed s).mtr = s.mtr ∧ (holdEvent changed s).ttc = s.ttc ∧ (holdEvent changed s).brs = s.brs ∧
    (holdEvent changed s).fp = s.fp ∧ (holdEvent changed s).sel = s.sel ∧ (holdEvent changed s).pending = s.pending := by
  unfold holdEvent; split <;> simp

@[simp] theorem recordStop_frame (r : StopReason) (s : State) :
    (recordStop r s).pins = s.pins ∧ (recordStop r s).alc = s.alc ∧ (recordStop r s).imn = s.imn ∧
    (recordStop r s).bhc = s.bhc ∧ (recordStop r s).sfe = s.sfe ∧ (recordStop r s).ble = s.ble ∧
    (recordStop r s).asm = s.asm ∧ (recordStop r s).mtr = s.mtr ∧ (recordStop r s).ttc = s.ttc ∧
    (recordStop r s).brs = s.brs ∧ (recordStop r s).vp = s.vp ∧ (recordStop r s).fp = s.fp ∧ (recordStop r s).sel = s.sel ∧
    (recordStop r s).pending = s.pending := by
  unfold recordStop; (repeat' split) <;> simp

@[simp] theorem cutConverter_frame (s : State) :
    (cutConverter s).pins = s.pins ∧ (cutConverter s).slc = s.slc ∧ (cutConverter s).sfe = s.sfe ∧
    (cutConverter s).ble = s.ble ∧ (cutConverter s).asm = s.asm ∧ (cutConverter s).mtr = s.mtr ∧
    (cutConverter s).ttc = s.ttc ∧ (cutConverter s).fp = s.fp ∧ (cutConverter s).sel = s.sel ∧
    (cutConverter s).pending = s.pending := by
  unfold cutConverter; simp

@[simp] theorem enterStopping_frame (s : State) :
    (enterStopping s).pins = s.pins ∧ (enterStopping s).slc = s.slc ∧ (enterStopping s).sfe = s.sfe ∧
    (enterStopping s).ble = s.ble ∧ (enterStopping s).asm = s.asm ∧ (enterStopping s).mtr = s.mtr ∧
    (enterStopping s).ttc = s.ttc ∧ (enterStopping s).fp = s.fp ∧ (enterStopping s).sel = s.sel ∧
    (enterStopping s).pending = s.pending := by
  unfold enterStopping; simp

@[simp] theorem stopLive_frame (r : StopReason) (cut : Bool) (s : State) :
    (stopLive r cut s).pins = s.pins ∧ (stopLive r cut s).sfe = s.sfe ∧ (stopLive r cut s).ble = s.ble ∧
    (stopLive r cut s).asm = s.asm ∧ (stopLive r cut s).mtr = s.mtr ∧ (stopLive r cut s).ttc = s.ttc ∧
    (stopLive r cut s).fp = s.fp ∧ (stopLive r cut s).sel = s.sel ∧ (stopLive r cut s).pending = s.pending := by
  unfold stopLive; split <;> simp

@[simp] theorem returnToLinking_frame (s : State) :
    (returnToLinking s).pins = s.pins ∧ (returnToLinking s).sfe = s.sfe ∧ (returnToLinking s).ble = s.ble ∧
    (returnToLinking s).asm = s.asm ∧ (returnToLinking s).mtr = s.mtr ∧ (returnToLinking s).ttc = s.ttc ∧
    (returnToLinking s).fp = s.fp ∧ (returnToLinking s).sel = s.sel ∧ (returnToLinking s).pending = s.pending := by
  unfold returnToLinking; simp

@[simp] theorem enterEnded_frame (s : State) :
    (enterEnded s).pins = s.pins ∧ (enterEnded s).sfe = s.sfe ∧ (enterEnded s).ble = s.ble ∧ (enterEnded s).asm = s.asm ∧
    (enterEnded s).mtr = s.mtr ∧ (enterEnded s).ttc = s.ttc ∧ (enterEnded s).fp = s.fp ∧ (enterEnded s).sel = s.sel ∧
    (enterEnded s).pending = s.pending := by
  unfold enterEnded; dsimp only; split <;> simp

@[simp] theorem closeSteps_frame (unplug : Bool) (s : State) :
    (closeSteps unplug s).pins = s.pins ∧ (closeSteps unplug s).sfe = s.sfe ∧ (closeSteps unplug s).ble = s.ble ∧
    (closeSteps unplug s).asm = s.asm ∧ (closeSteps unplug s).mtr = s.mtr ∧ (closeSteps unplug s).ttc = s.ttc ∧
    (closeSteps unplug s).sel = s.sel ∧ (closeSteps unplug s).pending = s.pending := by
  unfold closeSteps; dsimp only; (repeat' split) <;> simp

@[simp] theorem closeSession_frame (s : State) :
    (closeSession s).pins = s.pins ∧ (closeSession s).sfe = s.sfe ∧ (closeSession s).ble = s.ble ∧
    (closeSession s).asm = s.asm ∧ (closeSession s).mtr = s.mtr ∧ (closeSession s).ttc = s.ttc ∧
    (closeSession s).sel = s.sel ∧ (closeSession s).pending = s.pending := by
  unfold closeSession; simp

@[simp] theorem endChecking_frame (s : State) :
    (endChecking s).pins = s.pins ∧ (endChecking s).alc = s.alc ∧ (endChecking s).slc = s.slc ∧ (endChecking s).bhc = s.bhc ∧
    (endChecking s).sfe = s.sfe ∧ (endChecking s).ble = s.ble ∧ (endChecking s).asm = s.asm ∧ (endChecking s).mtr = s.mtr ∧
    (endChecking s).ttc = s.ttc ∧ (endChecking s).brs = s.brs ∧ (endChecking s).vp = s.vp ∧ (endChecking s).fp = s.fp ∧
    (endChecking s).sel = s.sel ∧ (endChecking s).pending = s.pending := by
  unfold endChecking; simp

@[simp] theorem closeChecking_frame (r : StopReason) (s : State) :
    (closeChecking r s).pins = s.pins ∧ (closeChecking r s).sfe = s.sfe ∧ (closeChecking r s).ble = s.ble ∧
    (closeChecking r s).asm = s.asm ∧ (closeChecking r s).mtr = s.mtr ∧ (closeChecking r s).ttc = s.ttc ∧
    (closeChecking r s).sel = s.sel ∧ (closeChecking r s).pending = s.pending := by
  unfold closeChecking; simp

@[simp] theorem enterChecking_frame (s : State) :
    (enterChecking s).pins = s.pins ∧ (enterChecking s).slc = s.slc ∧ (enterChecking s).sfe = s.sfe ∧
    (enterChecking s).ble = s.ble ∧ (enterChecking s).asm = s.asm ∧ (enterChecking s).mtr = s.mtr ∧
    (enterChecking s).ttc = s.ttc ∧ (enterChecking s).fp = s.fp ∧ (enterChecking s).sel = s.sel ∧
    (enterChecking s).pending = s.pending := by
  unfold enterChecking; simp

@[simp] theorem checkStart_frame (s : State) :
    (checkStart s).pins = s.pins ∧ (checkStart s).slc = s.slc ∧ (checkStart s).sfe = s.sfe ∧ (checkStart s).ble = s.ble ∧
    (checkStart s).asm = s.asm ∧ (checkStart s).mtr = s.mtr ∧ (checkStart s).ttc = s.ttc ∧ (checkStart s).fp = s.fp ∧
    (checkStart s).sel = s.sel ∧ (checkStart s).pending = s.pending := by
  unfold checkStart; split <;> simp

@[simp] theorem readyRise_frame (s : State) :
    (readyRise s).pins = s.pins ∧ (readyRise s).slc = s.slc ∧ (readyRise s).sfe = s.sfe ∧ (readyRise s).ble = s.ble ∧
    (readyRise s).asm = s.asm ∧ (readyRise s).mtr = s.mtr ∧ (readyRise s).ttc = s.ttc ∧ (readyRise s).fp = s.fp ∧
    (readyRise s).sel = s.sel ∧ (readyRise s).pending = s.pending := by
  unfold readyRise; split <;> simp

@[simp] theorem testLinkLost_frame (s : State) :
    (testLinkLost s).pins = s.pins ∧ (testLinkLost s).sfe = s.sfe ∧ (testLinkLost s).ble = s.ble ∧
    (testLinkLost s).asm = s.asm ∧ (testLinkLost s).mtr = s.mtr ∧ (testLinkLost s).ttc = s.ttc ∧ (testLinkLost s).fp = s.fp ∧
    (testLinkLost s).sel = s.sel ∧ (testLinkLost s).pending = s.pending := by
  unfold testLinkLost; split <;> simp

@[simp] theorem beginStarting_frame (unrecorded : Bool) (s : State) :
    (beginStarting unrecorded s).pins = s.pins ∧ (beginStarting unrecorded s).sfe = s.sfe ∧
    (beginStarting unrecorded s).ble = s.ble ∧ (beginStarting unrecorded s).asm = s.asm ∧
    (beginStarting unrecorded s).mtr = s.mtr ∧ (beginStarting unrecorded s).ttc = s.ttc ∧
    (beginStarting unrecorded s).fp = s.fp ∧ (beginStarting unrecorded s).sel = s.sel ∧
    (beginStarting unrecorded s).pending = s.pending := by
  unfold beginStarting; dsimp only; split <;> simp

@[simp] theorem enterStarting_frame (s : State) :
    (enterStarting s).pins = s.pins ∧ (enterStarting s).sfe = s.sfe ∧ (enterStarting s).ble = s.ble ∧
    (enterStarting s).asm = s.asm ∧ (enterStarting s).mtr = s.mtr ∧ (enterStarting s).ttc = s.ttc ∧
    (enterStarting s).sel = s.sel ∧ (enterStarting s).pending = s.pending := by
  unfold enterStarting; dsimp only; split <;> simp

@[simp] theorem answerCheck_frame (s : State) :
    (answerCheck s).pins = s.pins ∧ (answerCheck s).sfe = s.sfe ∧ (answerCheck s).ble = s.ble ∧ (answerCheck s).asm = s.asm ∧
    (answerCheck s).mtr = s.mtr ∧ (answerCheck s).ttc = s.ttc ∧ (answerCheck s).sel = s.sel ∧
    (answerCheck s).pending = s.pending := by
  unfold answerCheck; dsimp only; (repeat' split) <;> simp

@[simp] theorem cscTakesVerdict_frame (s : State) :
    (cscTakesVerdict s).pins = s.pins ∧ (cscTakesVerdict s).sfe = s.sfe ∧ (cscTakesVerdict s).ble = s.ble ∧
    (cscTakesVerdict s).asm = s.asm ∧ (cscTakesVerdict s).mtr = s.mtr ∧ (cscTakesVerdict s).ttc = s.ttc ∧
    (cscTakesVerdict s).sel = s.sel ∧ (cscTakesVerdict s).pending = s.pending := by
  unfold cscTakesVerdict; (repeat' split) <;> simp

@[simp] theorem cscLinkDown_frame (s : State) :
    (cscLinkDown s).pins = s.pins ∧ (cscLinkDown s).sfe = s.sfe ∧ (cscLinkDown s).ble = s.ble ∧ (cscLinkDown s).asm = s.asm ∧
    (cscLinkDown s).mtr = s.mtr ∧ (cscLinkDown s).ttc = s.ttc ∧ (cscLinkDown s).fp = s.fp ∧ (cscLinkDown s).sel = s.sel ∧
    (cscLinkDown s).pending = s.pending := by
  unfold cscLinkDown; split <;> simp

@[simp] theorem cscLinkUp_frame (s : State) :
    (cscLinkUp s).pins = s.pins ∧ (cscLinkUp s).sfe = s.sfe ∧ (cscLinkUp s).ble = s.ble ∧ (cscLinkUp s).asm = s.asm ∧
    (cscLinkUp s).mtr = s.mtr ∧ (cscLinkUp s).ttc = s.ttc ∧ (cscLinkUp s).fp = s.fp ∧ (cscLinkUp s).sel = s.sel ∧
    (cscLinkUp s).pending = s.pending := by
  unfold cscLinkUp; simp

@[simp] theorem cscTakesBand_frame (s : State) :
    (cscTakesBand s).pins = s.pins ∧ (cscTakesBand s).sfe = s.sfe ∧ (cscTakesBand s).ble = s.ble ∧
    (cscTakesBand s).asm = s.asm ∧ (cscTakesBand s).mtr = s.mtr ∧ (cscTakesBand s).ttc = s.ttc ∧ (cscTakesBand s).fp = s.fp ∧
    (cscTakesBand s).sel = s.sel ∧ (cscTakesBand s).pending = s.pending := by
  unfold cscTakesBand; simp

@[simp] theorem cscTakesResult_frame (p : PeriodResult) (s : State) :
    (cscTakesResult p s).pins = s.pins ∧ (cscTakesResult p s).sfe = s.sfe ∧ (cscTakesResult p s).ble = s.ble ∧
    (cscTakesResult p s).asm = s.asm ∧ (cscTakesResult p s).mtr = s.mtr ∧ (cscTakesResult p s).ttc = s.ttc ∧
    (cscTakesResult p s).sel = s.sel ∧ (cscTakesResult p s).pending = s.pending := by
  unfold cscTakesResult; split <;> simp

@[simp] theorem cscReadyFall_frame (s : State) :
    (cscReadyFall s).pins = s.pins ∧ (cscReadyFall s).sfe = s.sfe ∧ (cscReadyFall s).ble = s.ble ∧
    (cscReadyFall s).asm = s.asm ∧ (cscReadyFall s).mtr = s.mtr ∧ (cscReadyFall s).ttc = s.ttc ∧ (cscReadyFall s).fp = s.fp ∧
    (cscReadyFall s).sel = s.sel ∧ (cscReadyFall s).pending = s.pending := by
  unfold cscReadyFall; split <;> simp

@[simp] theorem cscFault_frame (s : State) :
    (cscFault s).pins = s.pins ∧ (cscFault s).sfe = s.sfe ∧ (cscFault s).ble = s.ble ∧ (cscFault s).asm = s.asm ∧
    (cscFault s).mtr = s.mtr ∧ (cscFault s).ttc = s.ttc ∧ (cscFault s).fp = s.fp ∧ (cscFault s).sel = s.sel ∧
    (cscFault s).pending = s.pending := by
  unfold cscFault; (repeat' split) <;> simp

@[simp] theorem cscPlugRise_frame (s : State) :
    (cscPlugRise s).pins = s.pins ∧ (cscPlugRise s).sfe = s.sfe ∧ (cscPlugRise s).ble = s.ble ∧ (cscPlugRise s).asm = s.asm ∧
    (cscPlugRise s).mtr = s.mtr ∧ (cscPlugRise s).ttc = s.ttc ∧ (cscPlugRise s).fp = s.fp ∧ (cscPlugRise s).sel = s.sel ∧
    (cscPlugRise s).pending = s.pending := by
  unfold cscPlugRise; split <;> simp

@[simp] theorem cscPlugFall_frame (s : State) :
    (cscPlugFall s).pins = s.pins ∧ (cscPlugFall s).sfe = s.sfe ∧ (cscPlugFall s).ble = s.ble ∧ (cscPlugFall s).asm = s.asm ∧
    (cscPlugFall s).mtr = s.mtr ∧ (cscPlugFall s).ttc = s.ttc ∧ (cscPlugFall s).sel = s.sel ∧
    (cscPlugFall s).pending = s.pending := by
  unfold cscPlugFall; dsimp only; (repeat' split) <;> simp

@[simp] theorem stopAlways_frame (r : StopReason) (s : State) :
    (stopAlways r s).pins = s.pins ∧ (stopAlways r s).alc = s.alc ∧ (stopAlways r s).imn = s.imn ∧
    (stopAlways r s).bhc = s.bhc ∧ (stopAlways r s).sfe = s.sfe ∧ (stopAlways r s).ble = s.ble ∧
    (stopAlways r s).asm = s.asm ∧ (stopAlways r s).mtr = s.mtr ∧ (stopAlways r s).ttc = s.ttc ∧
    (stopAlways r s).brs = s.brs ∧ (stopAlways r s).vp = s.vp ∧ (stopAlways r s).fp = s.fp ∧ (stopAlways r s).sel = s.sel ∧
    (stopAlways r s).pending = s.pending := by
  unfold stopAlways; simp

@[simp] theorem cscSupplyFail_frame (s : State) :
    (cscSupplyFail s).pins = s.pins ∧ (cscSupplyFail s).sfe = s.sfe ∧ (cscSupplyFail s).ble = s.ble ∧
    (cscSupplyFail s).asm = s.asm ∧ (cscSupplyFail s).mtr = s.mtr ∧ (cscSupplyFail s).ttc = s.ttc ∧
    (cscSupplyFail s).sel = s.sel ∧ (cscSupplyFail s).pending = s.pending := by
  unfold cscSupplyFail; (repeat' split) <;> simp

@[simp] theorem cscRestart_frame (s : State) :
    (cscRestart s).pins = s.pins ∧ (cscRestart s).sfe = s.sfe ∧ (cscRestart s).ble = s.ble ∧ (cscRestart s).asm = s.asm ∧
    (cscRestart s).mtr = s.mtr ∧ (cscRestart s).ttc = s.ttc ∧ (cscRestart s).sel = s.sel ∧
    (cscRestart s).pending = s.pending := by
  unfold cscRestart; (repeat' split) <;> simp

/-! ### Machine/Verdict.lean -/

@[simp] theorem retestCompletion_frame (minimum w f : Int) (s : State) :
    (retestCompletion minimum w f s).pins = s.pins ∧ (retestCompletion minimum w f s).csc = s.csc ∧
    (retestCompletion minimum w f s).alc = s.alc ∧ (retestCompletion minimum w f s).slc = s.slc ∧
    (retestCompletion minimum w f s).bhc = s.bhc ∧ (retestCompletion minimum w f s).sfe = s.sfe ∧
    (retestCompletion minimum w f s).ble = s.ble ∧ (retestCompletion minimum w f s).asm = s.asm ∧
    (retestCompletion minimum w f s).mtr = s.mtr ∧ (retestCompletion minimum w f s).ttc = s.ttc ∧
    (retestCompletion minimum w f s).brs = s.brs ∧ (retestCompletion minimum w f s).fp = s.fp ∧
    (retestCompletion minimum w f s).sel = s.sel ∧ (retestCompletion minimum w f s).pending = s.pending := by
  unfold retestCompletion; (repeat' split) <;> simp

@[simp] theorem handHeater_frame (before : Imn) (minimum w : Int) (s : State) :
    (handHeater before minimum w s).pins = s.pins ∧ (handHeater before minimum w s).csc = s.csc ∧
    (handHeater before minimum w s).alc = s.alc ∧ (handHeater before minimum w s).slc = s.slc ∧
    (handHeater before minimum w s).sfe = s.sfe ∧ (handHeater before minimum w s).ble = s.ble ∧
    (handHeater before minimum w s).asm = s.asm ∧ (handHeater before minimum w s).mtr = s.mtr ∧
    (handHeater before minimum w s).ttc = s.ttc ∧ (handHeater before minimum w s).fp = s.fp ∧
    (handHeater before minimum w s).sel = s.sel ∧ (handHeater before minimum w s).pending = s.pending := by
  unfold handHeater; (repeat' split) <;> simp

@[simp] theorem handVerdict_frame (order : HandOver) (before : Imn) (minimum : Nat) (w : Int) (s : State) :
    (handVerdict order before minimum w s).pins = s.pins ∧ (handVerdict order before minimum w s).sfe = s.sfe ∧
    (handVerdict order before minimum w s).ble = s.ble ∧ (handVerdict order before minimum w s).asm = s.asm ∧
    (handVerdict order before minimum w s).mtr = s.mtr ∧ (handVerdict order before minimum w s).ttc = s.ttc ∧
    (handVerdict order before minimum w s).sel = s.sel ∧
    (handVerdict order before minimum w s).pending = s.pending := by
  unfold handVerdict; dsimp only; (repeat' split) <;> simp

@[simp] theorem judgeCompletion_frame (minimum : Nat) (w f : Int) (s : State) :
    (judgeCompletion minimum w f s).pins = s.pins ∧ (judgeCompletion minimum w f s).csc = s.csc ∧
    (judgeCompletion minimum w f s).alc = s.alc ∧ (judgeCompletion minimum w f s).slc = s.slc ∧
    (judgeCompletion minimum w f s).bhc = s.bhc ∧ (judgeCompletion minimum w f s).sfe = s.sfe ∧
    (judgeCompletion minimum w f s).ble = s.ble ∧ (judgeCompletion minimum w f s).asm = s.asm ∧
    (judgeCompletion minimum w f s).mtr = s.mtr ∧ (judgeCompletion minimum w f s).ttc = s.ttc ∧
    (judgeCompletion minimum w f s).brs = s.brs ∧ (judgeCompletion minimum w f s).fp = s.fp ∧
    (judgeCompletion minimum w f s).sel = s.sel ∧ (judgeCompletion minimum w f s).pending = s.pending := by
  unfold judgeCompletion; simp

@[simp] theorem completeCycle_frame (order : HandOver) (res : Nat × Nat) (b : AveragesB) (s : State) :
    (completeCycle order res b s).pins = s.pins ∧ (completeCycle order res b s).sfe = s.sfe ∧
    (completeCycle order res b s).ble = s.ble ∧ (completeCycle order res b s).asm = s.asm ∧
    (completeCycle order res b s).mtr = s.mtr ∧ (completeCycle order res b s).ttc = s.ttc ∧
    (completeCycle order res b s).sel = s.sel ∧ (completeCycle order res b s).pending = s.pending := by
  unfold completeCycle; dsimp only; (repeat' split) <;> simp

@[simp] theorem endPhaseA_frame (s : State) :
    (endPhaseA s).pins = s.pins ∧ (endPhaseA s).csc = s.csc ∧ (endPhaseA s).slc = s.slc ∧ (endPhaseA s).sfe = s.sfe ∧
    (endPhaseA s).ble = s.ble ∧ (endPhaseA s).asm = s.asm ∧ (endPhaseA s).mtr = s.mtr ∧ (endPhaseA s).ttc = s.ttc ∧
    (endPhaseA s).brs = s.brs ∧ (endPhaseA s).vp = s.vp ∧ (endPhaseA s).fp = s.fp ∧ (endPhaseA s).sel = s.sel ∧
    (endPhaseA s).pending = s.pending := by
  unfold endPhaseA; simp

@[simp] theorem endPhaseB_frame (order : HandOver) (s : State) :
    (endPhaseB order s).pins = s.pins ∧ (endPhaseB order s).sfe = s.sfe ∧ (endPhaseB order s).ble = s.ble ∧
    (endPhaseB order s).asm = s.asm ∧ (endPhaseB order s).mtr = s.mtr ∧ (endPhaseB order s).ttc = s.ttc ∧
    (endPhaseB order s).sel = s.sel ∧ (endPhaseB order s).pending = s.pending := by
  unfold endPhaseB; dsimp only; (repeat' split) <;> simp

/-! ### Machine/Slots.lean -/

@[simp] theorem heaterTakesBand_frame (s : State) :
    (heaterTakesBand s).pins = s.pins ∧ (heaterTakesBand s).csc = s.csc ∧ (heaterTakesBand s).slc = s.slc ∧
    (heaterTakesBand s).sfe = s.sfe ∧ (heaterTakesBand s).ble = s.ble ∧ (heaterTakesBand s).asm = s.asm ∧
    (heaterTakesBand s).mtr = s.mtr ∧ (heaterTakesBand s).ttc = s.ttc ∧ (heaterTakesBand s).fp = s.fp ∧
    (heaterTakesBand s).sel = s.sel ∧ (heaterTakesBand s).pending = s.pending := by
  unfold heaterTakesBand; simp

@[simp] theorem firstSlot_frame (s : State) :
    (firstSlot s).pins = s.pins ∧ (firstSlot s).sfe = s.sfe ∧ (firstSlot s).ble = s.ble ∧ (firstSlot s).sel = s.sel ∧
    (firstSlot s).pending = s.pending := by
  unfold firstSlot; simp

@[simp] theorem handLinkDown_frame (order : HandOver) (s : State) :
    (handLinkDown order s).pins = s.pins ∧ (handLinkDown order s).sfe = s.sfe ∧ (handLinkDown order s).ble = s.ble ∧
    (handLinkDown order s).asm = s.asm ∧ (handLinkDown order s).mtr = s.mtr ∧ (handLinkDown order s).ttc = s.ttc ∧
    (handLinkDown order s).fp = s.fp ∧ (handLinkDown order s).sel = s.sel ∧ (handLinkDown order s).pending = s.pending := by
  unfold handLinkDown; split <;> simp

@[simp] theorem handLinkUp_frame (order : HandOver) (s : State) :
    (handLinkUp order s).pins = s.pins ∧ (handLinkUp order s).sfe = s.sfe ∧ (handLinkUp order s).ble = s.ble ∧
    (handLinkUp order s).asm = s.asm ∧ (handLinkUp order s).mtr = s.mtr ∧ (handLinkUp order s).ttc = s.ttc ∧
    (handLinkUp order s).fp = s.fp ∧ (handLinkUp order s).sel = s.sel ∧ (handLinkUp order s).pending = s.pending := by
  unfold handLinkUp; split <;> simp

@[simp] theorem takeSet_frame (order : HandOver) (s : State) :
    (takeSet order s).pins = s.pins ∧ (takeSet order s).sfe = s.sfe ∧ (takeSet order s).asm = s.asm ∧
    (takeSet order s).mtr = s.mtr ∧ (takeSet order s).ttc = s.ttc ∧ (takeSet order s).fp = s.fp ∧
    (takeSet order s).sel = s.sel ∧ (takeSet order s).pending = s.pending := by
  unfold takeSet; dsimp only; split <;> simp

@[simp] theorem assembleSlot_frame (s : State) :
    (assembleSlot s).pins = s.pins ∧ (assembleSlot s).csc = s.csc ∧ (assembleSlot s).alc = s.alc ∧
    (assembleSlot s).slc = s.slc ∧ (assembleSlot s).imn = s.imn ∧ (assembleSlot s).bhc = s.bhc ∧
    (assembleSlot s).sfe = s.sfe ∧ (assembleSlot s).ble = s.ble ∧ (assembleSlot s).mtr = s.mtr ∧
    (assembleSlot s).ttc = s.ttc ∧ (assembleSlot s).brs = s.brs ∧ (assembleSlot s).fp = s.fp ∧ (assembleSlot s).sel = s.sel ∧
    (assembleSlot s).pending = s.pending := by
  unfold assembleSlot; dsimp only; split <;> simp

@[simp] theorem overcurrentTest_frame (v : SlotValues) (s : State) :
    (overcurrentTest v s).pins = s.pins ∧ (overcurrentTest v s).csc = s.csc ∧ (overcurrentTest v s).slc = s.slc ∧
    (overcurrentTest v s).sfe = s.sfe ∧ (overcurrentTest v s).ble = s.ble ∧ (overcurrentTest v s).asm = s.asm ∧
    (overcurrentTest v s).mtr = s.mtr ∧ (overcurrentTest v s).ttc = s.ttc ∧ (overcurrentTest v s).fp = s.fp ∧
    (overcurrentTest v s).sel = s.sel ∧ (overcurrentTest v s).pending = s.pending := by
  unfold overcurrentTest; split <;> simp

@[simp] theorem handSlot_frame (v : SlotValues) (s : State) :
    (handSlot v s).pins = s.pins ∧ (handSlot v s).csc = s.csc ∧ (handSlot v s).slc = s.slc ∧ (handSlot v s).sfe = s.sfe ∧
    (handSlot v s).ble = s.ble ∧ (handSlot v s).asm = s.asm ∧ (handSlot v s).ttc = s.ttc ∧ (handSlot v s).fp = s.fp ∧
    (handSlot v s).sel = s.sel ∧
    (handSlot v s).pending = s.pending := by
  unfold handSlot; simp

@[simp] theorem sendModes_frame (intact : Bool) (s : State) :
    (sendModes intact s).pins = s.pins ∧
    (sendModes intact s).csc = s.csc ∧ (sendModes intact s).alc = s.alc ∧ (sendModes intact s).slc = s.slc ∧
    (sendModes intact s).imn = s.imn ∧ (sendModes intact s).bhc = s.bhc ∧ (sendModes intact s).ble = s.ble ∧
    (sendModes intact s).asm = s.asm ∧ (sendModes intact s).mtr = s.mtr ∧ (sendModes intact s).ttc = s.ttc ∧
    (sendModes intact s).brs = s.brs ∧ (sendModes intact s).vp = s.vp ∧ (sendModes intact s).fp = s.fp ∧
    (sendModes intact s).sel = s.sel ∧ (sendModes intact s).pending = s.pending := by
  unfold sendModes; split <;> simp

@[simp] theorem metrologySlot_frame (order : HandOver) (intact : Bool) (s : State) :
    (metrologySlot order intact s).pins = s.pins ∧ (metrologySlot order intact s).sel = s.sel ∧
    (metrologySlot order intact s).pending = s.pending := by
  unfold metrologySlot; split <;> simp

@[simp] theorem heaterTakesResult_frame (p : PeriodResult) (s : State) :
    (heaterTakesResult p s).pins = s.pins ∧ (heaterTakesResult p s).csc = s.csc ∧ (heaterTakesResult p s).slc = s.slc ∧
    (heaterTakesResult p s).sfe = s.sfe ∧ (heaterTakesResult p s).ble = s.ble ∧ (heaterTakesResult p s).asm = s.asm ∧
    (heaterTakesResult p s).mtr = s.mtr ∧ (heaterTakesResult p s).ttc = s.ttc ∧ (heaterTakesResult p s).fp = s.fp ∧
    (heaterTakesResult p s).sel = s.sel ∧ (heaterTakesResult p s).pending = s.pending := by
  unfold heaterTakesResult; simp

@[simp] theorem handResult_frame (order : HandOver) (p : PeriodResult) (s : State) :
    (handResult order p s).pins = s.pins ∧ (handResult order p s).sfe = s.sfe ∧ (handResult order p s).ble = s.ble ∧
    (handResult order p s).asm = s.asm ∧ (handResult order p s).mtr = s.mtr ∧ (handResult order p s).sel = s.sel ∧
    (handResult order p s).pending = s.pending := by
  unfold handResult; split <;> simp

@[simp] theorem heaterTakesSubstitution_frame (active : Bool) (s : State) :
    (heaterTakesSubstitution active s).pins = s.pins ∧ (heaterTakesSubstitution active s).csc = s.csc ∧
    (heaterTakesSubstitution active s).slc = s.slc ∧ (heaterTakesSubstitution active s).sfe = s.sfe ∧
    (heaterTakesSubstitution active s).ble = s.ble ∧ (heaterTakesSubstitution active s).asm = s.asm ∧
    (heaterTakesSubstitution active s).mtr = s.mtr ∧ (heaterTakesSubstitution active s).ttc = s.ttc ∧
    (heaterTakesSubstitution active s).fp = s.fp ∧ (heaterTakesSubstitution active s).sel = s.sel ∧
    (heaterTakesSubstitution active s).pending = s.pending := by
  unfold heaterTakesSubstitution; simp

@[simp] theorem endSubstitution_frame (cancelled : Bool) (s : State) :
    (endSubstitution cancelled s).pins = s.pins ∧ (endSubstitution cancelled s).slc = s.slc ∧
    (endSubstitution cancelled s).sfe = s.sfe ∧ (endSubstitution cancelled s).ble = s.ble ∧
    (endSubstitution cancelled s).mtr = s.mtr ∧ (endSubstitution cancelled s).ttc = s.ttc ∧
    (endSubstitution cancelled s).sel = s.sel ∧ (endSubstitution cancelled s).pending = s.pending := by
  unfold endSubstitution; simp

@[simp] theorem periodClose_frame (order : HandOver) (s : State) :
    (periodClose order s).pins = s.pins ∧ (periodClose order s).sfe = s.sfe ∧ (periodClose order s).ble = s.ble ∧
    (periodClose order s).sel = s.sel ∧ (periodClose order s).pending = s.pending := by
  unfold periodClose; dsimp only; split <;> simp

/-! ### Machine/Station.lean -/

@[simp] theorem dispatcherTake_frame (s : State) :
    (dispatcherTake s).pins = s.pins ∧ (dispatcherTake s).alc = s.alc ∧ (dispatcherTake s).imn = s.imn ∧
    (dispatcherTake s).bhc = s.bhc ∧ (dispatcherTake s).sfe = s.sfe ∧ (dispatcherTake s).ble = s.ble ∧
    (dispatcherTake s).asm = s.asm ∧ (dispatcherTake s).mtr = s.mtr ∧ (dispatcherTake s).ttc = s.ttc ∧
    (dispatcherTake s).brs = s.brs ∧ (dispatcherTake s).vp = s.vp ∧ (dispatcherTake s).fp = s.fp ∧
    (dispatcherTake s).sel = s.sel ∧ (dispatcherTake s).pending = s.pending := by
  unfold dispatcherTake; split <;> simp

@[simp] theorem hearStation_frame (s : State) :
    (hearStation s).pins = s.pins ∧ (hearStation s).sfe = s.sfe ∧ (hearStation s).ble = s.ble ∧ (hearStation s).asm = s.asm ∧
    (hearStation s).mtr = s.mtr ∧ (hearStation s).ttc = s.ttc ∧ (hearStation s).fp = s.fp ∧ (hearStation s).sel = s.sel ∧
    (hearStation s).pending = s.pending := by
  unfold hearStation; simp

@[simp] theorem offerFrame_frame (f : RxFrame) (s : State) :
    (offerFrame f s).pins = s.pins ∧ (offerFrame f s).sfe = s.sfe ∧ (offerFrame f s).ble = s.ble ∧
    (offerFrame f s).asm = s.asm ∧ (offerFrame f s).mtr = s.mtr ∧ (offerFrame f s).ttc = s.ttc ∧ (offerFrame f s).fp = s.fp ∧
    (offerFrame f s).sel = s.sel ∧ (offerFrame f s).pending = s.pending := by
  unfold offerFrame; (repeat' split) <;> simp

@[simp] theorem closeContent_frame (content : List Bool) (s : State) :
    (closeContent content s).pins = s.pins ∧ (closeContent content s).sfe = s.sfe ∧ (closeContent content s).ble = s.ble ∧
    (closeContent content s).asm = s.asm ∧ (closeContent content s).mtr = s.mtr ∧ (closeContent content s).ttc = s.ttc ∧
    (closeContent content s).fp = s.fp ∧ (closeContent content s).sel = s.sel ∧
    (closeContent content s).pending = s.pending := by
  unfold closeContent; dsimp only; (repeat' split) <;> simp

@[simp] theorem takeRxEvent_frame (s : State) (e : RxEvent) :
    (takeRxEvent s e).pins = s.pins ∧ (takeRxEvent s e).sfe = s.sfe ∧ (takeRxEvent s e).ble = s.ble ∧
    (takeRxEvent s e).asm = s.asm ∧ (takeRxEvent s e).mtr = s.mtr ∧ (takeRxEvent s e).ttc = s.ttc ∧
    (takeRxEvent s e).fp = s.fp ∧ (takeRxEvent s e).sel = s.sel ∧ (takeRxEvent s e).pending = s.pending := by
  unfold takeRxEvent; split <;> simp

@[simp] theorem foldl_takeRxEvent_frame (es : List RxEvent) (s : State) :
    (es.foldl takeRxEvent s).pins = s.pins ∧ (es.foldl takeRxEvent s).sfe = s.sfe ∧ (es.foldl takeRxEvent s).ble = s.ble ∧
    (es.foldl takeRxEvent s).asm = s.asm ∧ (es.foldl takeRxEvent s).mtr = s.mtr ∧ (es.foldl takeRxEvent s).ttc = s.ttc ∧
    (es.foldl takeRxEvent s).fp = s.fp ∧ (es.foldl takeRxEvent s).sel = s.sel ∧
    (es.foldl takeRxEvent s).pending = s.pending := by
  induction es generalizing s with
  | nil => simp
  | cons e es ih => simp [ih]

@[simp] theorem lineBits_frame (bits : List Bool) (s : State) :
    (lineBits bits s).pins = s.pins ∧ (lineBits bits s).sfe = s.sfe ∧ (lineBits bits s).ble = s.ble ∧
    (lineBits bits s).asm = s.asm ∧ (lineBits bits s).mtr = s.mtr ∧ (lineBits bits s).ttc = s.ttc ∧
    (lineBits bits s).fp = s.fp ∧ (lineBits bits s).sel = s.sel ∧ (lineBits bits s).pending = s.pending := by
  unfold lineBits; simp

@[simp] theorem completeLong_frame (s : State) :
    (completeLong s).pins = s.pins ∧ (completeLong s).csc = s.csc ∧ (completeLong s).alc = s.alc ∧
    (completeLong s).imn = s.imn ∧ (completeLong s).bhc = s.bhc ∧ (completeLong s).sfe = s.sfe ∧
    (completeLong s).ble = s.ble ∧ (completeLong s).asm = s.asm ∧ (completeLong s).mtr = s.mtr ∧
    (completeLong s).ttc = s.ttc ∧ (completeLong s).brs = s.brs ∧ (completeLong s).fp = s.fp ∧ (completeLong s).sel = s.sel ∧
    (completeLong s).pending = s.pending := by
  unfold completeLong; split <;> simp

@[simp] theorem beginAccess_frame (s : State) :
    (beginAccess s).pins = s.pins ∧ (beginAccess s).csc = s.csc ∧ (beginAccess s).alc = s.alc ∧ (beginAccess s).imn = s.imn ∧
    (beginAccess s).bhc = s.bhc ∧ (beginAccess s).sfe = s.sfe ∧ (beginAccess s).ble = s.ble ∧ (beginAccess s).asm = s.asm ∧
    (beginAccess s).mtr = s.mtr ∧ (beginAccess s).ttc = s.ttc ∧ (beginAccess s).brs = s.brs ∧ (beginAccess s).vp = s.vp ∧
    (beginAccess s).fp = s.fp ∧ (beginAccess s).sel = s.sel ∧ (beginAccess s).pending = s.pending := by
  unfold beginAccess; (repeat' split) <;> simp

@[simp] theorem awaitAccess_frame (n : Nat) (s : State) :
    (awaitAccess n s).pins = s.pins ∧ (awaitAccess n s).sfe = s.sfe ∧ (awaitAccess n s).ble = s.ble ∧
    (awaitAccess n s).asm = s.asm ∧ (awaitAccess n s).mtr = s.mtr ∧ (awaitAccess n s).ttc = s.ttc ∧
    (awaitAccess n s).fp = s.fp ∧ (awaitAccess n s).sel = s.sel ∧ (awaitAccess n s).pending = s.pending := by
  induction n generalizing s with
  | zero => simp [awaitAccess]
  | succ n ih => unfold awaitAccess; split <;> simp [ih]

@[simp] theorem assignEntry_frame (outlet : Nat) (identity : Word) (s : State) :
    (assignEntry outlet identity s).pins = s.pins ∧ (assignEntry outlet identity s).sfe = s.sfe ∧
    (assignEntry outlet identity s).ble = s.ble ∧ (assignEntry outlet identity s).asm = s.asm ∧
    (assignEntry outlet identity s).mtr = s.mtr ∧ (assignEntry outlet identity s).ttc = s.ttc ∧
    (assignEntry outlet identity s).fp = s.fp ∧ (assignEntry outlet identity s).sel = s.sel ∧
    (assignEntry outlet identity s).pending = s.pending := by
  unfold assignEntry; dsimp only; split <;> simp

@[simp] theorem readdress_frame (outlet : Nat) (identity : Word) (s : State) :
    (readdress outlet identity s).pins = s.pins ∧ (readdress outlet identity s).alc = s.alc ∧
    (readdress outlet identity s).imn = s.imn ∧ (readdress outlet identity s).bhc = s.bhc ∧
    (readdress outlet identity s).sfe = s.sfe ∧ (readdress outlet identity s).ble = s.ble ∧
    (readdress outlet identity s).asm = s.asm ∧ (readdress outlet identity s).mtr = s.mtr ∧
    (readdress outlet identity s).ttc = s.ttc ∧ (readdress outlet identity s).brs = s.brs ∧
    (readdress outlet identity s).vp = s.vp ∧ (readdress outlet identity s).fp = s.fp ∧
    (readdress outlet identity s).sel = s.sel ∧ (readdress outlet identity s).pending = s.pending := by
  unfold readdress; simp

@[simp] theorem takeAssign_frame (outlet : Nat) (identity : Word) (s : State) :
    (takeAssign outlet identity s).pins = s.pins ∧ (takeAssign outlet identity s).sfe = s.sfe ∧
    (takeAssign outlet identity s).ble = s.ble ∧ (takeAssign outlet identity s).asm = s.asm ∧
    (takeAssign outlet identity s).mtr = s.mtr ∧ (takeAssign outlet identity s).ttc = s.ttc ∧
    (takeAssign outlet identity s).fp = s.fp ∧ (takeAssign outlet identity s).sel = s.sel ∧
    (takeAssign outlet identity s).pending = s.pending := by
  unfold takeAssign; (repeat' split) <;> simp

@[simp] theorem takeOffer_frame (o : Offer) (s : State) :
    (takeOffer o s).pins = s.pins ∧ (takeOffer o s).sfe = s.sfe ∧ (takeOffer o s).ble = s.ble ∧ (takeOffer o s).asm = s.asm ∧
    (takeOffer o s).mtr = s.mtr ∧ (takeOffer o s).ttc = s.ttc ∧ (takeOffer o s).fp = s.fp ∧ (takeOffer o s).sel = s.sel ∧
    (takeOffer o s).pending = s.pending := by
  unfold takeOffer; dsimp only; (repeat' split) <;> simp

@[simp] theorem takeAuth_frame (ref : BitVec 32) (s : State) :
    (takeAuth ref s).pins = s.pins ∧ (takeAuth ref s).alc = s.alc ∧ (takeAuth ref s).slc = s.slc ∧
    (takeAuth ref s).imn = s.imn ∧ (takeAuth ref s).bhc = s.bhc ∧ (takeAuth ref s).sfe = s.sfe ∧
    (takeAuth ref s).ble = s.ble ∧ (takeAuth ref s).asm = s.asm ∧ (takeAuth ref s).mtr = s.mtr ∧
    (takeAuth ref s).ttc = s.ttc ∧ (takeAuth ref s).vp = s.vp ∧ (takeAuth ref s).fp = s.fp ∧ (takeAuth ref s).sel = s.sel ∧
    (takeAuth ref s).pending = s.pending := by
  unfold takeAuth; dsimp only; (repeat' split) <;> simp

@[simp] theorem takeTime_frame (day second : Nat) (s : State) :
    (takeTime day second s).pins = s.pins ∧ (takeTime day second s).csc = s.csc ∧ (takeTime day second s).alc = s.alc ∧
    (takeTime day second s).slc = s.slc ∧ (takeTime day second s).imn = s.imn ∧ (takeTime day second s).bhc = s.bhc ∧
    (takeTime day second s).sfe = s.sfe ∧ (takeTime day second s).ble = s.ble ∧ (takeTime day second s).asm = s.asm ∧
    (takeTime day second s).mtr = s.mtr ∧ (takeTime day second s).vp = s.vp ∧ (takeTime day second s).fp = s.fp ∧
    (takeTime day second s).sel = s.sel ∧ (takeTime day second s).pending = s.pending := by
  unfold takeTime; split <;> simp

@[simp] theorem takePause_frame (seconds : Nat) (s : State) :
    (takePause seconds s).pins = s.pins ∧ (takePause seconds s).sfe = s.sfe ∧ (takePause seconds s).ble = s.ble ∧
    (takePause seconds s).asm = s.asm ∧ (takePause seconds s).mtr = s.mtr ∧ (takePause seconds s).ttc = s.ttc ∧
    (takePause seconds s).fp = s.fp ∧ (takePause seconds s).sel = s.sel ∧ (takePause seconds s).pending = s.pending := by
  unfold takePause; split <;> simp

@[simp] theorem takeResume_frame (s : State) :
    (takeResume s).pins = s.pins ∧ (takeResume s).sfe = s.sfe ∧ (takeResume s).ble = s.ble ∧ (takeResume s).asm = s.asm ∧
    (takeResume s).mtr = s.mtr ∧ (takeResume s).ttc = s.ttc ∧ (takeResume s).fp = s.fp ∧ (takeResume s).sel = s.sel ∧
    (takeResume s).pending = s.pending := by
  unfold takeResume; split <;> simp

@[simp] theorem takeStop_frame (reason : Byte) (s : State) :
    (takeStop reason s).pins = s.pins ∧ (takeStop reason s).sfe = s.sfe ∧ (takeStop reason s).ble = s.ble ∧
    (takeStop reason s).asm = s.asm ∧ (takeStop reason s).mtr = s.mtr ∧ (takeStop reason s).ttc = s.ttc ∧
    (takeStop reason s).sel = s.sel ∧ (takeStop reason s).pending = s.pending := by
  unfold takeStop; (repeat' split) <;> simp

@[simp] theorem endHandling_frame (s : State) :
    (endHandling s).pins = s.pins ∧ (endHandling s).alc = s.alc ∧ (endHandling s).imn = s.imn ∧ (endHandling s).bhc = s.bhc ∧
    (endHandling s).sfe = s.sfe ∧ (endHandling s).ble = s.ble ∧ (endHandling s).asm = s.asm ∧ (endHandling s).mtr = s.mtr ∧
    (endHandling s).ttc = s.ttc ∧ (endHandling s).brs = s.brs ∧ (endHandling s).vp = s.vp ∧ (endHandling s).fp = s.fp ∧
    (endHandling s).sel = s.sel ∧ (endHandling s).pending = s.pending := by
  unfold endHandling; simp

/-- A frame taken in UNPLUGGED ends without its effect (R2). -/
theorem endWithEffect_of_taken {effect : State → State} {s : State} (h : s.csc.takenUnplugged = true) :
    endWithEffect effect s = endHandling s := by
  simp [endWithEffect, h]

/-- Any other frame ends with its effect (R21). -/
theorem endWithEffect_of_not {effect : State → State} {s : State} (h : s.csc.takenUnplugged = false) :
    endWithEffect effect s = endHandling (effect s) := by
  simp [endWithEffect, h]

/-- The end of a handling gives the dispatcher the oldest frame that waits, marked where the session is UNPLUGGED (R2, R21). -/
theorem endHandling_eq_handled (s : State) : endHandling s = s.handled := by
  cases h : s.slc.queue <;> simp [endHandling, dispatcherTake, State.handled, State.modCsc, State.modSlc, h]
  rw [← h]

/-! ### Machine/Inputs.lean -/

@[simp] theorem plugRise_frame (s : State) :
    (plugRise s).pins = s.pins ∧ (plugRise s).sfe = s.sfe ∧ (plugRise s).ble = s.ble ∧ (plugRise s).mtr = s.mtr ∧
    (plugRise s).ttc = s.ttc ∧ (plugRise s).fp = s.fp ∧ (plugRise s).sel = s.sel ∧ (plugRise s).pending = s.pending := by
  unfold plugRise; simp

@[simp] theorem plugFall_frame (s : State) :
    (plugFall s).pins = s.pins ∧ (plugFall s).sfe = s.sfe ∧ (plugFall s).ble = s.ble ∧ (plugFall s).asm = s.asm ∧
    (plugFall s).mtr = s.mtr ∧ (plugFall s).ttc = s.ttc ∧ (plugFall s).sel = s.sel ∧ (plugFall s).pending = s.pending := by
  unfold plugFall; simp

@[simp] theorem heaterSupplyFail_frame (s : State) :
    (heaterSupplyFail s).pins = s.pins ∧ (heaterSupplyFail s).csc = s.csc ∧ (heaterSupplyFail s).slc = s.slc ∧
    (heaterSupplyFail s).sfe = s.sfe ∧ (heaterSupplyFail s).ble = s.ble ∧ (heaterSupplyFail s).asm = s.asm ∧
    (heaterSupplyFail s).mtr = s.mtr ∧ (heaterSupplyFail s).ttc = s.ttc ∧ (heaterSupplyFail s).fp = s.fp ∧
    (heaterSupplyFail s).sel = s.sel ∧ (heaterSupplyFail s).pending = s.pending := by
  unfold heaterSupplyFail; simp

@[simp] theorem heaterReleased_frame (s : State) :
    (heaterReleased s).pins = s.pins ∧ (heaterReleased s).csc = s.csc ∧ (heaterReleased s).slc = s.slc ∧
    (heaterReleased s).sfe = s.sfe ∧ (heaterReleased s).ble = s.ble ∧ (heaterReleased s).asm = s.asm ∧
    (heaterReleased s).mtr = s.mtr ∧ (heaterReleased s).ttc = s.ttc ∧ (heaterReleased s).fp = s.fp ∧
    (heaterReleased s).sel = s.sel ∧ (heaterReleased s).pending = s.pending := by
  unfold heaterReleased; simp

/-! ### Machine/Timers.lean -/

@[simp] theorem silenceLost_frame (s : State) :
    (silenceLost s).pins = s.pins ∧ (silenceLost s).sfe = s.sfe ∧ (silenceLost s).ble = s.ble ∧ (silenceLost s).asm = s.asm ∧
    (silenceLost s).mtr = s.mtr ∧ (silenceLost s).ttc = s.ttc ∧ (silenceLost s).fp = s.fp ∧ (silenceLost s).sel = s.sel ∧
    (silenceLost s).pending = s.pending := by
  unfold silenceLost; split <;> simp

@[simp] theorem meterDue_frame (s : State) :
    (meterDue s).pins = s.pins ∧ (meterDue s).csc = s.csc ∧ (meterDue s).alc = s.alc ∧ (meterDue s).imn = s.imn ∧
    (meterDue s).bhc = s.bhc ∧ (meterDue s).sfe = s.sfe ∧ (meterDue s).ble = s.ble ∧ (meterDue s).asm = s.asm ∧
    (meterDue s).mtr = s.mtr ∧ (meterDue s).ttc = s.ttc ∧ (meterDue s).brs = s.brs ∧ (meterDue s).vp = s.vp ∧
    (meterDue s).fp = s.fp ∧ (meterDue s).sel = s.sel ∧ (meterDue s).pending = s.pending := by
  unfold meterDue; (repeat' split) <;> simp

@[simp] theorem compareRequest_frame (s : State) :
    (compareRequest s).pins = s.pins ∧ (compareRequest s).alc = s.alc ∧ (compareRequest s).imn = s.imn ∧
    (compareRequest s).bhc = s.bhc ∧ (compareRequest s).sfe = s.sfe ∧ (compareRequest s).ble = s.ble ∧
    (compareRequest s).asm = s.asm ∧ (compareRequest s).mtr = s.mtr ∧ (compareRequest s).ttc = s.ttc ∧
    (compareRequest s).brs = s.brs ∧ (compareRequest s).vp = s.vp ∧ (compareRequest s).fp = s.fp ∧
    (compareRequest s).sel = s.sel ∧ (compareRequest s).pending = s.pending := by
  unfold compareRequest; split <;> simp

@[simp] theorem allocationExpiry_frame (s : State) :
    (allocationExpiry s).pins = s.pins ∧ (allocationExpiry s).sfe = s.sfe ∧ (allocationExpiry s).ble = s.ble ∧
    (allocationExpiry s).asm = s.asm ∧ (allocationExpiry s).mtr = s.mtr ∧ (allocationExpiry s).ttc = s.ttc ∧
    (allocationExpiry s).fp = s.fp ∧ (allocationExpiry s).sel = s.sel ∧ (allocationExpiry s).pending = s.pending := by
  unfold allocationExpiry; dsimp only; split <;> simp

/-! ### Machine/Power.lean -/

@[simp] theorem takePlugLevel_frame (s : State) :
    (takePlugLevel s).pins = s.pins ∧ (takePlugLevel s).sfe = s.sfe ∧ (takePlugLevel s).ble = s.ble ∧
    (takePlugLevel s).asm = s.asm ∧ (takePlugLevel s).mtr = s.mtr ∧ (takePlugLevel s).ttc = s.ttc ∧
    (takePlugLevel s).fp = s.fp ∧ (takePlugLevel s).sel = s.sel ∧ (takePlugLevel s).pending = s.pending := by
  unfold takePlugLevel; split <;> simp

@[simp] theorem powerOnBlocks_frame (s : State) :
    (powerOnBlocks s).pins = s.pins ∧ (powerOnBlocks s).sfe = s.sfe ∧
    (powerOnBlocks s).pending = s.pending := by
  unfold powerOnBlocks; simp

@[simp] theorem powerOn_frame (s : State) :
    (powerOn s).pins = s.pins ∧ (powerOn s).sfe = s.sfe ∧
    (powerOn s).pending = s.pending := by
  unfold powerOn; split <;> simp

@[simp] theorem imnRestart_frame (s : State) :
    (imnRestart s).pins = s.pins ∧ (imnRestart s).csc = s.csc ∧ (imnRestart s).slc = s.slc ∧ (imnRestart s).sfe = s.sfe ∧
    (imnRestart s).ble = s.ble ∧ (imnRestart s).asm = s.asm ∧ (imnRestart s).mtr = s.mtr ∧ (imnRestart s).ttc = s.ttc ∧
    (imnRestart s).fp = s.fp ∧ (imnRestart s).sel = s.sel ∧ (imnRestart s).pending = s.pending := by
  unfold imnRestart; simp

@[simp] theorem restartSteps_frame (s : State) :
    (restartSteps s).pins = s.pins ∧ (restartSteps s).sfe = s.sfe ∧ (restartSteps s).ble = s.ble ∧
    (restartSteps s).mtr = s.mtr ∧ (restartSteps s).ttc = s.ttc ∧ (restartSteps s).pending = s.pending := by
  unfold restartSteps; simp

@[simp] theorem handKeptVerdict_frame (s : State) :
    (handKeptVerdict s).pins = s.pins ∧ (handKeptVerdict s).csc = s.csc ∧ (handKeptVerdict s).alc = s.alc ∧
    (handKeptVerdict s).slc = s.slc ∧ (handKeptVerdict s).imn = s.imn ∧ (handKeptVerdict s).sfe = s.sfe ∧
    (handKeptVerdict s).ble = s.ble ∧ (handKeptVerdict s).asm = s.asm ∧ (handKeptVerdict s).mtr = s.mtr ∧
    (handKeptVerdict s).ttc = s.ttc ∧ (handKeptVerdict s).fp = s.fp ∧ (handKeptVerdict s).sel = s.sel ∧
    (handKeptVerdict s).pending = s.pending := by
  unfold handKeptVerdict; split <;> simp

@[simp] theorem vehicleRestart_frame (s : State) :
    (vehicleRestart s).pins = s.pins ∧ (vehicleRestart s).sfe = s.sfe ∧ (vehicleRestart s).ble = s.ble ∧
    (vehicleRestart s).mtr = s.mtr ∧ (vehicleRestart s).ttc = s.ttc ∧ (vehicleRestart s).pending = s.pending := by
  unfold vehicleRestart; simp

/-! ### Machine/Writes.lean -/

@[simp] theorem authorizeAction_frame (s : State) :
    (authorizeAction s).pins = s.pins ∧ (authorizeAction s).slc = s.slc ∧ (authorizeAction s).sfe = s.sfe ∧
    (authorizeAction s).ble = s.ble ∧ (authorizeAction s).asm = s.asm ∧ (authorizeAction s).mtr = s.mtr ∧
    (authorizeAction s).ttc = s.ttc ∧ (authorizeAction s).sel = s.sel ∧ (authorizeAction s).pending = s.pending := by
  unfold authorizeAction; split <;> simp

@[simp] theorem pauseAction_frame (s : State) :
    (pauseAction s).pins = s.pins ∧ (pauseAction s).sfe = s.sfe ∧ (pauseAction s).ble = s.ble ∧ (pauseAction s).asm = s.asm ∧
    (pauseAction s).mtr = s.mtr ∧ (pauseAction s).ttc = s.ttc ∧ (pauseAction s).sel = s.sel ∧
    (pauseAction s).pending = s.pending := by
  unfold pauseAction; split <;> simp

@[simp] theorem resumeAction_frame (s : State) :
    (resumeAction s).pins = s.pins ∧ (resumeAction s).sfe = s.sfe ∧ (resumeAction s).ble = s.ble ∧
    (resumeAction s).asm = s.asm ∧ (resumeAction s).mtr = s.mtr ∧ (resumeAction s).ttc = s.ttc ∧
    (resumeAction s).sel = s.sel ∧ (resumeAction s).pending = s.pending := by
  unfold resumeAction; split <;> simp

@[simp] theorem stopAction_frame (s : State) :
    (stopAction s).pins = s.pins ∧ (stopAction s).sfe = s.sfe ∧ (stopAction s).ble = s.ble ∧ (stopAction s).asm = s.asm ∧
    (stopAction s).mtr = s.mtr ∧ (stopAction s).ttc = s.ttc ∧ (stopAction s).sel = s.sel ∧
    (stopAction s).pending = s.pending := by
  unfold stopAction; split <;> simp

@[simp] theorem heatRunAction_frame (s : State) :
    (heatRunAction s).pins = s.pins ∧ (heatRunAction s).csc = s.csc ∧ (heatRunAction s).slc = s.slc ∧
    (heatRunAction s).sfe = s.sfe ∧ (heatRunAction s).ble = s.ble ∧ (heatRunAction s).asm = s.asm ∧
    (heatRunAction s).ttc = s.ttc ∧ (heatRunAction s).sel = s.sel ∧ (heatRunAction s).pending = s.pending := by
  unfold heatRunAction; split <;> simp

@[simp] theorem heatStopAction_frame (s : State) :
    (heatStopAction s).pins = s.pins ∧ (heatStopAction s).csc = s.csc ∧ (heatStopAction s).slc = s.slc ∧
    (heatStopAction s).sfe = s.sfe ∧ (heatStopAction s).ble = s.ble ∧ (heatStopAction s).asm = s.asm ∧
    (heatStopAction s).mtr = s.mtr ∧ (heatStopAction s).ttc = s.ttc ∧ (heatStopAction s).fp = s.fp ∧
    (heatStopAction s).sel = s.sel ∧ (heatStopAction s).pending = s.pending := by
  unfold heatStopAction; simp

@[simp] theorem askUnlock_frame (s : State) :
    (askUnlock s).pins = s.pins ∧ (askUnlock s).csc = s.csc ∧ (askUnlock s).alc = s.alc ∧ (askUnlock s).slc = s.slc ∧
    (askUnlock s).sfe = s.sfe ∧ (askUnlock s).ble = s.ble ∧ (askUnlock s).asm = s.asm ∧ (askUnlock s).mtr = s.mtr ∧
    (askUnlock s).ttc = s.ttc ∧ (askUnlock s).brs = s.brs ∧ (askUnlock s).vp = s.vp ∧ (askUnlock s).fp = s.fp ∧
    (askUnlock s).sel = s.sel ∧ (askUnlock s).pending = s.pending := by
  unfold askUnlock; simp

@[simp] theorem heaterUnlockAction_frame (s : State) :
    (heaterUnlockAction s).pins = s.pins ∧ (heaterUnlockAction s).csc = s.csc ∧ (heaterUnlockAction s).slc = s.slc ∧
    (heaterUnlockAction s).sfe = s.sfe ∧ (heaterUnlockAction s).ble = s.ble ∧ (heaterUnlockAction s).asm = s.asm ∧
    (heaterUnlockAction s).mtr = s.mtr ∧ (heaterUnlockAction s).ttc = s.ttc ∧ (heaterUnlockAction s).sel = s.sel ∧
    (heaterUnlockAction s).pending = s.pending := by
  unfold heaterUnlockAction; (repeat' split) <;> simp

@[simp] theorem retestAction_frame (s : State) :
    (retestAction s).pins = s.pins ∧ (retestAction s).csc = s.csc ∧ (retestAction s).alc = s.alc ∧
    (retestAction s).slc = s.slc ∧ (retestAction s).bhc = s.bhc ∧ (retestAction s).sfe = s.sfe ∧
    (retestAction s).ble = s.ble ∧ (retestAction s).asm = s.asm ∧ (retestAction s).mtr = s.mtr ∧
    (retestAction s).ttc = s.ttc ∧ (retestAction s).brs = s.brs ∧ (retestAction s).vp = s.vp ∧ (retestAction s).fp = s.fp ∧
    (retestAction s).sel = s.sel ∧ (retestAction s).pending = s.pending := by
  unfold retestAction; simp

@[simp] theorem thresholdAction_frame (item : ThresholdItem) (v : Word) (s : State) :
    (thresholdAction item v s).pins = s.pins ∧ (thresholdAction item v s).csc = s.csc ∧
    (thresholdAction item v s).alc = s.alc ∧ (thresholdAction item v s).slc = s.slc ∧ (thresholdAction item v s).bhc = s.bhc ∧
    (thresholdAction item v s).sfe = s.sfe ∧ (thresholdAction item v s).ble = s.ble ∧ (thresholdAction item v s).asm = s.asm ∧
    (thresholdAction item v s).mtr = s.mtr ∧ (thresholdAction item v s).ttc = s.ttc ∧ (thresholdAction item v s).brs = s.brs ∧
    (thresholdAction item v s).vp = s.vp ∧ (thresholdAction item v s).fp = s.fp ∧ (thresholdAction item v s).sel = s.sel ∧
    (thresholdAction item v s).pending = s.pending := by
  unfold thresholdAction; split <;> simp

@[simp] theorem substStartAction_frame (s : State) :
    (substStartAction s).pins = s.pins ∧ (substStartAction s).csc = s.csc ∧ (substStartAction s).slc = s.slc ∧
    (substStartAction s).sfe = s.sfe ∧ (substStartAction s).ble = s.ble ∧ (substStartAction s).ttc = s.ttc ∧
    (substStartAction s).sel = s.sel ∧ (substStartAction s).pending = s.pending := by
  unfold substStartAction; split <;> simp

@[simp] theorem substStopAction_frame (s : State) :
    (substStopAction s).pins = s.pins ∧ (substStopAction s).slc = s.slc ∧ (substStopAction s).sfe = s.sfe ∧
    (substStopAction s).ble = s.ble ∧ (substStopAction s).mtr = s.mtr ∧ (substStopAction s).ttc = s.ttc ∧
    (substStopAction s).sel = s.sel ∧ (substStopAction s).pending = s.pending := by
  unfold substStopAction; split <;> simp

@[simp] theorem substConfigAction_frame (item : SubstItem) (v : Word) (s : State) :
    (substConfigAction item v s).pins = s.pins ∧ (substConfigAction item v s).csc = s.csc ∧
    (substConfigAction item v s).alc = s.alc ∧ (substConfigAction item v s).slc = s.slc ∧
    (substConfigAction item v s).imn = s.imn ∧ (substConfigAction item v s).bhc = s.bhc ∧
    (substConfigAction item v s).sfe = s.sfe ∧ (substConfigAction item v s).ble = s.ble ∧
    (substConfigAction item v s).mtr = s.mtr ∧ (substConfigAction item v s).ttc = s.ttc ∧
    (substConfigAction item v s).brs = s.brs ∧ (substConfigAction item v s).sel = s.sel ∧
    (substConfigAction item v s).pending = s.pending := by
  unfold substConfigAction; split <;> simp

@[simp] theorem calibrationAction_frame (item : CalItem) (c : Fin 8) (v : Word) (s : State) :
    (calibrationAction item c v s).pins = s.pins ∧ (calibrationAction item c v s).csc = s.csc ∧
    (calibrationAction item c v s).alc = s.alc ∧ (calibrationAction item c v s).slc = s.slc ∧
    (calibrationAction item c v s).imn = s.imn ∧ (calibrationAction item c v s).bhc = s.bhc ∧
    (calibrationAction item c v s).sfe = s.sfe ∧ (calibrationAction item c v s).ble = s.ble ∧
    (calibrationAction item c v s).mtr = s.mtr ∧ (calibrationAction item c v s).ttc = s.ttc ∧
    (calibrationAction item c v s).brs = s.brs ∧ (calibrationAction item c v s).sel = s.sel ∧
    (calibrationAction item c v s).pending = s.pending := by
  unfold calibrationAction; split <;> simp

@[simp] theorem standbyAction_frame (c : Fin 8) (v : Word) (s : State) :
    (standbyAction c v s).pins = s.pins ∧ (standbyAction c v s).csc = s.csc ∧ (standbyAction c v s).alc = s.alc ∧
    (standbyAction c v s).slc = s.slc ∧ (standbyAction c v s).imn = s.imn ∧ (standbyAction c v s).bhc = s.bhc ∧
    (standbyAction c v s).sfe = s.sfe ∧ (standbyAction c v s).ble = s.ble ∧ (standbyAction c v s).mtr = s.mtr ∧
    (standbyAction c v s).ttc = s.ttc ∧ (standbyAction c v s).brs = s.brs ∧ (standbyAction c v s).vp = s.vp ∧
    (standbyAction c v s).fp = s.fp ∧ (standbyAction c v s).sel = s.sel ∧ (standbyAction c v s).pending = s.pending := by
  unfold standbyAction; simp

@[simp] theorem blockAction_frame (v : Word) (s : State) :
    (blockAction v s).pins = s.pins ∧ (blockAction v s).csc = s.csc ∧ (blockAction v s).alc = s.alc ∧
    (blockAction v s).slc = s.slc ∧ (blockAction v s).imn = s.imn ∧ (blockAction v s).bhc = s.bhc ∧
    (blockAction v s).sfe = s.sfe ∧ (blockAction v s).ble = s.ble ∧ (blockAction v s).mtr = s.mtr ∧
    (blockAction v s).ttc = s.ttc ∧ (blockAction v s).brs = s.brs ∧ (blockAction v s).vp = s.vp ∧
    (blockAction v s).fp = s.fp ∧ (blockAction v s).sel = s.sel ∧ (blockAction v s).pending = s.pending := by
  unfold blockAction; simp

@[simp] theorem ratingAction_frame (v : Word) (s : State) :
    (ratingAction v s).pins = s.pins ∧ (ratingAction v s).imn = s.imn ∧ (ratingAction v s).bhc = s.bhc ∧
    (ratingAction v s).sfe = s.sfe ∧ (ratingAction v s).ble = s.ble ∧ (ratingAction v s).asm = s.asm ∧
    (ratingAction v s).mtr = s.mtr ∧ (ratingAction v s).ttc = s.ttc ∧ (ratingAction v s).brs = s.brs ∧
    (ratingAction v s).vp = s.vp ∧ (ratingAction v s).fp = s.fp ∧ (ratingAction v s).sel = s.sel ∧
    (ratingAction v s).pending = s.pending := by
  unfold ratingAction; dsimp only; split <;> simp

@[simp] theorem demandAction_frame (f : Bhc → Bhc) (s : State) :
    (demandAction f s).pins = s.pins ∧ (demandAction f s).csc = s.csc ∧ (demandAction f s).slc = s.slc ∧
    (demandAction f s).sfe = s.sfe ∧ (demandAction f s).ble = s.ble ∧ (demandAction f s).asm = s.asm ∧
    (demandAction f s).mtr = s.mtr ∧ (demandAction f s).ttc = s.ttc ∧ (demandAction f s).fp = s.fp ∧
    (demandAction f s).sel = s.sel ∧ (demandAction f s).pending = s.pending := by
  unfold demandAction; simp

@[simp] theorem packTempAction_frame (v : Word) (s : State) :
    (packTempAction v s).pins = s.pins ∧ (packTempAction v s).csc = s.csc ∧ (packTempAction v s).slc = s.slc ∧
    (packTempAction v s).sfe = s.sfe ∧ (packTempAction v s).ble = s.ble ∧ (packTempAction v s).asm = s.asm ∧
    (packTempAction v s).mtr = s.mtr ∧ (packTempAction v s).ttc = s.ttc ∧ (packTempAction v s).fp = s.fp ∧
    (packTempAction v s).sel = s.sel ∧ (packTempAction v s).pending = s.pending := by
  unfold packTempAction; simp

@[simp] theorem demandSettingAction_frame (item : DemandItem) (v : Word) (s : State) :
    (demandSettingAction item v s).pins = s.pins ∧ (demandSettingAction item v s).csc = s.csc ∧
    (demandSettingAction item v s).slc = s.slc ∧ (demandSettingAction item v s).sfe = s.sfe ∧
    (demandSettingAction item v s).ble = s.ble ∧ (demandSettingAction item v s).asm = s.asm ∧
    (demandSettingAction item v s).mtr = s.mtr ∧ (demandSettingAction item v s).ttc = s.ttc ∧
    (demandSettingAction item v s).fp = s.fp ∧ (demandSettingAction item v s).sel = s.sel ∧
    (demandSettingAction item v s).pending = s.pending := by
  unfold demandSettingAction; simp

@[simp] theorem timeSetAction_frame (s : State) :
    (timeSetAction s).pins = s.pins ∧ (timeSetAction s).csc = s.csc ∧ (timeSetAction s).alc = s.alc ∧
    (timeSetAction s).slc = s.slc ∧ (timeSetAction s).imn = s.imn ∧ (timeSetAction s).bhc = s.bhc ∧
    (timeSetAction s).sfe = s.sfe ∧ (timeSetAction s).ble = s.ble ∧ (timeSetAction s).asm = s.asm ∧
    (timeSetAction s).mtr = s.mtr ∧ (timeSetAction s).vp = s.vp ∧ (timeSetAction s).fp = s.fp ∧
    (timeSetAction s).sel = s.sel ∧ (timeSetAction s).pending = s.pending := by
  unfold timeSetAction; simp

@[simp] theorem editPending_frame (code : Byte) (f : Ttc → Ttc) (s : State) :
    (editPending code f s).pins = s.pins ∧ (editPending code f s).csc = s.csc ∧ (editPending code f s).alc = s.alc ∧
    (editPending code f s).slc = s.slc ∧ (editPending code f s).imn = s.imn ∧ (editPending code f s).bhc = s.bhc ∧
    (editPending code f s).sfe = s.sfe ∧ (editPending code f s).ble = s.ble ∧ (editPending code f s).asm = s.asm ∧
    (editPending code f s).mtr = s.mtr ∧ (editPending code f s).brs = s.brs ∧ (editPending code f s).sel = s.sel ∧
    (editPending code f s).pending = s.pending := by
  unfold editPending; split <;> simp

@[simp] theorem pendingClearAction_frame (s : State) :
    (pendingClearAction s).pins = s.pins ∧ (pendingClearAction s).csc = s.csc ∧ (pendingClearAction s).alc = s.alc ∧
    (pendingClearAction s).slc = s.slc ∧ (pendingClearAction s).imn = s.imn ∧ (pendingClearAction s).bhc = s.bhc ∧
    (pendingClearAction s).sfe = s.sfe ∧ (pendingClearAction s).ble = s.ble ∧ (pendingClearAction s).asm = s.asm ∧
    (pendingClearAction s).mtr = s.mtr ∧ (pendingClearAction s).brs = s.brs ∧ (pendingClearAction s).sel = s.sel ∧
    (pendingClearAction s).pending = s.pending := by
  unfold pendingClearAction; simp

@[simp] theorem pendingAddAction_frame (v : Word) (s : State) :
    (pendingAddAction v s).pins = s.pins ∧ (pendingAddAction v s).csc = s.csc ∧ (pendingAddAction v s).alc = s.alc ∧
    (pendingAddAction v s).slc = s.slc ∧ (pendingAddAction v s).imn = s.imn ∧ (pendingAddAction v s).bhc = s.bhc ∧
    (pendingAddAction v s).sfe = s.sfe ∧ (pendingAddAction v s).ble = s.ble ∧ (pendingAddAction v s).asm = s.asm ∧
    (pendingAddAction v s).mtr = s.mtr ∧ (pendingAddAction v s).brs = s.brs ∧ (pendingAddAction v s).sel = s.sel ∧
    (pendingAddAction v s).pending = s.pending := by
  unfold pendingAddAction; split <;> simp

@[simp] theorem pendingPriceAction_frame (b : Band) (v : Word) (s : State) :
    (pendingPriceAction b v s).pins = s.pins ∧ (pendingPriceAction b v s).csc = s.csc ∧
    (pendingPriceAction b v s).alc = s.alc ∧ (pendingPriceAction b v s).slc = s.slc ∧ (pendingPriceAction b v s).imn = s.imn ∧
    (pendingPriceAction b v s).bhc = s.bhc ∧ (pendingPriceAction b v s).sfe = s.sfe ∧ (pendingPriceAction b v s).ble = s.ble ∧
    (pendingPriceAction b v s).asm = s.asm ∧ (pendingPriceAction b v s).mtr = s.mtr ∧ (pendingPriceAction b v s).brs = s.brs ∧
    (pendingPriceAction b v s).sel = s.sel ∧ (pendingPriceAction b v s).pending = s.pending := by
  unfold pendingPriceAction; simp

@[simp] theorem tariffCommitAction_frame (s : State) :
    (tariffCommitAction s).pins = s.pins ∧ (tariffCommitAction s).csc = s.csc ∧ (tariffCommitAction s).alc = s.alc ∧
    (tariffCommitAction s).slc = s.slc ∧ (tariffCommitAction s).imn = s.imn ∧ (tariffCommitAction s).bhc = s.bhc ∧
    (tariffCommitAction s).sfe = s.sfe ∧ (tariffCommitAction s).ble = s.ble ∧ (tariffCommitAction s).asm = s.asm ∧
    (tariffCommitAction s).mtr = s.mtr ∧ (tariffCommitAction s).brs = s.brs ∧ (tariffCommitAction s).sel = s.sel ∧
    (tariffCommitAction s).pending = s.pending := by
  unfold tariffCommitAction; simp

@[simp] theorem bandMaskAction_frame (item : MaskItem) (v : Word) (s : State) :
    (bandMaskAction item v s).pins = s.pins ∧ (bandMaskAction item v s).csc = s.csc ∧ (bandMaskAction item v s).alc = s.alc ∧
    (bandMaskAction item v s).slc = s.slc ∧ (bandMaskAction item v s).imn = s.imn ∧ (bandMaskAction item v s).bhc = s.bhc ∧
    (bandMaskAction item v s).sfe = s.sfe ∧ (bandMaskAction item v s).ble = s.ble ∧ (bandMaskAction item v s).asm = s.asm ∧
    (bandMaskAction item v s).mtr = s.mtr ∧ (bandMaskAction item v s).brs = s.brs ∧ (bandMaskAction item v s).vp = s.vp ∧
    (bandMaskAction item v s).fp = s.fp ∧ (bandMaskAction item v s).sel = s.sel ∧
    (bandMaskAction item v s).pending = s.pending := by
  unfold bandMaskAction; split <;> simp

@[simp] theorem retireAction_frame (v : Word) (s : State) :
    (retireAction v s).pins = s.pins ∧ (retireAction v s).csc = s.csc ∧ (retireAction v s).alc = s.alc ∧
    (retireAction v s).slc = s.slc ∧ (retireAction v s).imn = s.imn ∧ (retireAction v s).bhc = s.bhc ∧
    (retireAction v s).sfe = s.sfe ∧ (retireAction v s).ble = s.ble ∧ (retireAction v s).asm = s.asm ∧
    (retireAction v s).mtr = s.mtr ∧ (retireAction v s).ttc = s.ttc ∧ (retireAction v s).sel = s.sel ∧
    (retireAction v s).pending = s.pending := by
  unfold retireAction; split <;> simp

@[simp] theorem cursorAction_frame (p : Port) (v : Word) (s : State) :
    (cursorAction p v s).pins = s.pins ∧ (cursorAction p v s).csc = s.csc ∧ (cursorAction p v s).alc = s.alc ∧
    (cursorAction p v s).slc = s.slc ∧ (cursorAction p v s).imn = s.imn ∧ (cursorAction p v s).bhc = s.bhc ∧
    (cursorAction p v s).sfe = s.sfe ∧ (cursorAction p v s).ble = s.ble ∧ (cursorAction p v s).asm = s.asm ∧
    (cursorAction p v s).mtr = s.mtr ∧ (cursorAction p v s).ttc = s.ttc ∧ (cursorAction p v s).vp = s.vp ∧
    (cursorAction p v s).fp = s.fp ∧ (cursorAction p v s).sel = s.sel ∧ (cursorAction p v s).pending = s.pending := by
  unfold cursorAction; simp

@[simp] theorem modPort_frame (p : Port) (f : PortState → PortState) (s : State) :
    (modPort p f s).pins = s.pins ∧ (modPort p f s).csc = s.csc ∧ (modPort p f s).alc = s.alc ∧ (modPort p f s).slc = s.slc ∧
    (modPort p f s).imn = s.imn ∧ (modPort p f s).bhc = s.bhc ∧ (modPort p f s).sfe = s.sfe ∧ (modPort p f s).ble = s.ble ∧
    (modPort p f s).asm = s.asm ∧ (modPort p f s).mtr = s.mtr ∧ (modPort p f s).ttc = s.ttc ∧ (modPort p f s).brs = s.brs ∧
    (modPort p f s).sel = s.sel ∧ (modPort p f s).pending = s.pending := by
  unfold modPort; split <;> simp

@[simp] theorem snapshotAction_frame (p : Port) (v : Word) (s : State) :
    (snapshotAction p v s).pins = s.pins ∧ (snapshotAction p v s).csc = s.csc ∧ (snapshotAction p v s).alc = s.alc ∧
    (snapshotAction p v s).slc = s.slc ∧ (snapshotAction p v s).imn = s.imn ∧ (snapshotAction p v s).bhc = s.bhc ∧
    (snapshotAction p v s).sfe = s.sfe ∧ (snapshotAction p v s).ble = s.ble ∧ (snapshotAction p v s).asm = s.asm ∧
    (snapshotAction p v s).mtr = s.mtr ∧ (snapshotAction p v s).ttc = s.ttc ∧ (snapshotAction p v s).brs = s.brs ∧
    (snapshotAction p v s).sel = s.sel ∧ (snapshotAction p v s).pending = s.pending := by
  unfold snapshotAction; simp

@[simp] theorem maskAction_frame (p : Port) (v : Word) (s : State) :
    (maskAction p v s).pins = s.pins ∧ (maskAction p v s).csc = s.csc ∧ (maskAction p v s).alc = s.alc ∧
    (maskAction p v s).slc = s.slc ∧ (maskAction p v s).imn = s.imn ∧ (maskAction p v s).bhc = s.bhc ∧
    (maskAction p v s).sfe = s.sfe ∧ (maskAction p v s).ble = s.ble ∧ (maskAction p v s).asm = s.asm ∧
    (maskAction p v s).mtr = s.mtr ∧ (maskAction p v s).ttc = s.ttc ∧ (maskAction p v s).brs = s.brs ∧
    (maskAction p v s).sel = s.sel ∧ (maskAction p v s).pending = s.pending := by
  unfold maskAction; simp

@[simp] theorem vpSetting_frame (n : Nat) (v : Word) (s : State) :
    (vpSetting n v s).pins = s.pins ∧ (vpSetting n v s).csc = s.csc ∧ (vpSetting n v s).slc = s.slc ∧
    (vpSetting n v s).sfe = s.sfe ∧ (vpSetting n v s).ble = s.ble ∧ (vpSetting n v s).asm = s.asm ∧
    (vpSetting n v s).mtr = s.mtr ∧ (vpSetting n v s).ttc = s.ttc ∧ (vpSetting n v s).brs = s.brs ∧
    (vpSetting n v s).vp = s.vp ∧ (vpSetting n v s).fp = s.fp ∧ (vpSetting n v s).pending = s.pending := by
  unfold vpSetting; split <;> simp

@[simp] theorem fpSetting_frame (n : Nat) (v : Word) (s : State) :
    (fpSetting n v s).pins = s.pins ∧ (fpSetting n v s).csc = s.csc ∧ (fpSetting n v s).sfe = s.sfe ∧
    (fpSetting n v s).ble = s.ble ∧ (fpSetting n v s).asm = s.asm ∧ (fpSetting n v s).vp = s.vp ∧
    (fpSetting n v s).fp = s.fp ∧ (fpSetting n v s).pending = s.pending := by
  unfold fpSetting; split <;> simp

@[simp] theorem sessionCommand_frame (v : Word) (s : State) :
    (sessionCommand v s).pins = s.pins ∧ (sessionCommand v s).sfe = s.sfe ∧ (sessionCommand v s).ble = s.ble ∧
    (sessionCommand v s).asm = s.asm ∧ (sessionCommand v s).mtr = s.mtr ∧ (sessionCommand v s).ttc = s.ttc ∧
    (sessionCommand v s).sel = s.sel ∧ (sessionCommand v s).pending = s.pending := by
  unfold sessionCommand; (repeat' split) <;> simp

@[simp] theorem heaterCommand_frame (v : Word) (s : State) :
    (heaterCommand v s).pins = s.pins ∧ (heaterCommand v s).csc = s.csc ∧ (heaterCommand v s).slc = s.slc ∧
    (heaterCommand v s).sfe = s.sfe ∧ (heaterCommand v s).ble = s.ble ∧ (heaterCommand v s).asm = s.asm ∧
    (heaterCommand v s).ttc = s.ttc ∧ (heaterCommand v s).sel = s.sel ∧ (heaterCommand v s).pending = s.pending := by
  unfold heaterCommand; (repeat' split) <;> simp

@[simp] theorem vpWrite_frame (n : Nat) (v : Word) (s : State) :
    (vpWrite n v s).pins = s.pins ∧ (vpWrite n v s).sfe = s.sfe ∧ (vpWrite n v s).ble = s.ble ∧ (vpWrite n v s).ttc = s.ttc ∧
    (vpWrite n v s).pending = s.pending := by
  unfold vpWrite; (repeat' split) <;> simp

@[simp] theorem fpWrite_frame (n : Nat) (v : Word) (s : State) :
    (fpWrite n v s).pins = s.pins ∧ (fpWrite n v s).sfe = s.sfe ∧ (fpWrite n v s).ble = s.ble ∧
    (fpWrite n v s).pending = s.pending := by
  unfold fpWrite; (repeat' split) <;> simp

@[simp] theorem commonWrite_frame (p : Port) (n : Nat) (v : Word) (s : State) :
    (commonWrite p n v s).pins = s.pins ∧ (commonWrite p n v s).csc = s.csc ∧ (commonWrite p n v s).alc = s.alc ∧
    (commonWrite p n v s).slc = s.slc ∧ (commonWrite p n v s).imn = s.imn ∧ (commonWrite p n v s).bhc = s.bhc ∧
    (commonWrite p n v s).sfe = s.sfe ∧ (commonWrite p n v s).ble = s.ble ∧ (commonWrite p n v s).asm = s.asm ∧
    (commonWrite p n v s).mtr = s.mtr ∧ (commonWrite p n v s).ttc = s.ttc ∧ (commonWrite p n v s).sel = s.sel ∧
    (commonWrite p n v s).pending = s.pending := by
  unfold commonWrite; split <;> simp

@[simp] theorem checkedWrite_frame (p : Port) (code : Byte) (v : Word) (s : State) :
    (checkedWrite p code v s).pins = s.pins ∧ (checkedWrite p code v s).sfe = s.sfe ∧ (checkedWrite p code v s).ble = s.ble ∧
    (checkedWrite p code v s).pending = s.pending := by
  unfold checkedWrite; dsimp only; (repeat' split) <;> simp

@[simp] theorem readEffect_frame (p : Port) (n : Nat) (s : State) :
    (readEffect p n s).pins = s.pins ∧ (readEffect p n s).csc = s.csc ∧ (readEffect p n s).alc = s.alc ∧
    (readEffect p n s).slc = s.slc ∧ (readEffect p n s).imn = s.imn ∧ (readEffect p n s).bhc = s.bhc ∧
    (readEffect p n s).sfe = s.sfe ∧ (readEffect p n s).ble = s.ble ∧ (readEffect p n s).asm = s.asm ∧
    (readEffect p n s).mtr = s.mtr ∧ (readEffect p n s).ttc = s.ttc ∧ (readEffect p n s).sel = s.sel ∧
    (readEffect p n s).pending = s.pending := by
  unfold readEffect; (repeat' split) <;> simp

@[simp] theorem readAction_frame (p : Port) (n : Nat) (s : State) :
    (readAction p n s).pins = s.pins ∧ (readAction p n s).csc = s.csc ∧ (readAction p n s).alc = s.alc ∧
    (readAction p n s).slc = s.slc ∧ (readAction p n s).imn = s.imn ∧ (readAction p n s).bhc = s.bhc ∧
    (readAction p n s).sfe = s.sfe ∧ (readAction p n s).ble = s.ble ∧ (readAction p n s).asm = s.asm ∧
    (readAction p n s).mtr = s.mtr ∧ (readAction p n s).ttc = s.ttc ∧ (readAction p n s).sel = s.sel ∧
    (readAction p n s).pending = s.pending := by
  unfold readAction; simp

/-- A complete word: ignored in a window that stood open at start-up, else taken and acted on. -/
theorem takeWord_cases (p : Port) (act : State → State) (s : State) :
    (portOf p s).ignoring = true ∧ takeWord p act s = s
    ∨ (portOf p s).ignoring = false ∧ takeWord p act s = act (modPort p PortState.takeWord s) := by
  unfold takeWord; cases (portOf p s).ignoring <;> simp

@[simp] theorem readWord_frame (p : Port) (n : Nat) (s : State) :
    (readWord p n s).pins = s.pins ∧ (readWord p n s).csc = s.csc ∧ (readWord p n s).alc = s.alc ∧
    (readWord p n s).slc = s.slc ∧ (readWord p n s).imn = s.imn ∧ (readWord p n s).bhc = s.bhc ∧
    (readWord p n s).sfe = s.sfe ∧ (readWord p n s).ble = s.ble ∧ (readWord p n s).asm = s.asm ∧
    (readWord p n s).mtr = s.mtr ∧ (readWord p n s).ttc = s.ttc ∧ (readWord p n s).sel = s.sel ∧
    (readWord p n s).pending = s.pending := by
  rcases takeWord_cases p (readAction p n) s with h | h <;> simp [readWord, h.2]

@[simp] theorem snapshotWord_frame (p : Port) (v : Word) (s : State) :
    (snapshotWord p v s).pins = s.pins ∧ (snapshotWord p v s).csc = s.csc ∧ (snapshotWord p v s).alc = s.alc ∧
    (snapshotWord p v s).slc = s.slc ∧ (snapshotWord p v s).imn = s.imn ∧ (snapshotWord p v s).bhc = s.bhc ∧
    (snapshotWord p v s).sfe = s.sfe ∧ (snapshotWord p v s).ble = s.ble ∧ (snapshotWord p v s).asm = s.asm ∧
    (snapshotWord p v s).mtr = s.mtr ∧ (snapshotWord p v s).ttc = s.ttc ∧ (snapshotWord p v s).brs = s.brs ∧
    (snapshotWord p v s).sel = s.sel ∧ (snapshotWord p v s).pending = s.pending := by
  rcases takeWord_cases p (snapshotAction p v) s with h | h <;> simp [snapshotWord, h.2]

@[simp] theorem endWindow_frame (p : Port) (s : State) :
    (endWindow p s).pins = s.pins ∧ (endWindow p s).csc = s.csc ∧ (endWindow p s).alc = s.alc ∧
    (endWindow p s).slc = s.slc ∧ (endWindow p s).imn = s.imn ∧ (endWindow p s).bhc = s.bhc ∧ (endWindow p s).sfe = s.sfe ∧
    (endWindow p s).ble = s.ble ∧ (endWindow p s).asm = s.asm ∧ (endWindow p s).mtr = s.mtr ∧ (endWindow p s).ttc = s.ttc ∧
    (endWindow p s).brs = s.brs ∧ (endWindow p s).sel = s.sel ∧ (endWindow p s).pending = s.pending := by
  unfold endWindow; simp

/-! ### Finer frames: a port's own operations, and entries to states other than TRANSFER -/

@[simp] theorem refuse_vp_fp (r : WriteRefusal) (code : Byte) (s : State) : (refuse .vp r code s).fp = s.fp := by
  simp [refuse]

@[simp] theorem refuse_fp_vp (r : WriteRefusal) (code : Byte) (s : State) : (refuse .fp r code s).vp = s.vp := by
  simp [refuse]

@[simp] theorem modPort_vp_fp (f : PortState → PortState) (s : State) : (modPort .vp f s).fp = s.fp := rfl

@[simp] theorem modPort_fp_vp (f : PortState → PortState) (s : State) : (modPort .fp f s).vp = s.vp := rfl

theorem enterSession_other (n : Session) (s : State) (h : n ≠ .transfer) :
    (enterSession n s).imn = s.imn ∧ (enterSession n s).bhc = s.bhc ∧ (enterSession n s).brs = s.brs ∧
    (s.csc.session ≠ .transfer → (enterSession n s).alc = s.alc) := by
  unfold enterSession; dsimp only; (repeat' split) <;> simp_all

@[simp] theorem enterLinking_other (s : State) :
    (enterLinking s).imn = s.imn ∧ (enterLinking s).bhc = s.bhc ∧ (enterLinking s).brs = s.brs := by
  unfold enterLinking; simp [enterSession_other]

@[simp] theorem enterStopping_other (s : State) :
    (enterStopping s).imn = s.imn ∧ (enterStopping s).bhc = s.bhc ∧ (enterStopping s).brs = s.brs := by
  unfold enterStopping; simp [enterSession_other]

@[simp] theorem enterChecking_other (s : State) :
    (enterChecking s).bhc = s.bhc ∧ (enterChecking s).brs = s.brs := by
  unfold enterChecking; simp [enterSession_other]

@[simp] theorem checkStart_other (s : State) :
    (checkStart s).bhc = s.bhc ∧ (checkStart s).brs = s.brs ∧ (checkStart s).alc = s.alc := by
  unfold checkStart; split
  · rename_i h; refine ⟨by simp, by simp, ?_⟩
    unfold enterChecking
    rw [((enterSession_other _ _ (by decide)).2.2.2 _)]
    · simp
    · rcases h.1 with h | h <;> simp [h]
  · simp

@[simp] theorem returnToLinking_other (s : State) :
    (returnToLinking s).bhc = s.bhc ∧ (returnToLinking s).brs = s.brs := by
  unfold returnToLinking; simp

end Sys2Proof.Machine
end

