-- ==== Sys2Proof/Laws/Memory.lean ====
section
/-! SUPPORT. The record memory: every operation keeps the canonical form, a read after a write gives what was written, and a
write leaves every other word alone. -/
namespace Sys2Proof.Machine

/-! ### The canonical form -/

/-- A memory that is well formed above a bound is well formed above a lower one. -/
theorem memWfFrom_mono {lo hi : Nat} (h : lo ≤ hi) (m : RecordMemory) (hm : memWfFrom (some hi) m = true) :
    memWfFrom (some lo) m = true := by
  cases m with
  | nil => rfl
  | cons c rest =>
    simp only [memWfFrom, Bool.and_eq_true, decide_eq_true_eq] at hm ⊢
    exact ⟨⟨by omega, hm.1.2⟩, hm.2⟩

/-- A memory that is well formed above a bound is well formed. -/
theorem memWfFrom_none {lo : Nat} (m : RecordMemory) (hm : memWfFrom (some lo) m = true) : memWf m = true := by
  cases m with
  | nil => rfl
  | cons c rest =>
    simp only [memWf, memWfFrom, Bool.and_eq_true] at hm ⊢
    exact ⟨⟨trivial, hm.1.2⟩, hm.2⟩

/-- Every address of a memory that is well formed above a bound lies above it. -/
theorem memWfFrom_above {lo : Nat} (m : RecordMemory) (hm : memWfFrom (some lo) m = true) : ∀ c ∈ m, lo < c.1 := by
  induction m generalizing lo with
  | nil => simp
  | cons c rest ih =>
    simp only [memWfFrom, Bool.and_eq_true, decide_eq_true_eq] at hm
    intro d hd
    rcases List.mem_cons.mp hd with rfl | hd
    · exact hm.1.1
    · have := ih hm.2 d hd; omega

/-- Writing above a bound keeps the form above that bound. -/
theorem memWfFrom_memWrite {lo : Nat} (m : RecordMemory) (a : Nat) (v : Word) (ha : lo < a)
    (hm : memWfFrom (some lo) m = true) : memWfFrom (some lo) (memWrite m a v) = true := by
  induction m generalizing lo with
  | nil => unfold memWrite; split <;> simp_all [memWfFrom]
  | cons c rest ih =>
    obtain ⟨k, w⟩ := c
    simp only [memWfFrom, Bool.and_eq_true, decide_eq_true_eq] at hm
    unfold memWrite
    split
    · split <;> simp_all [memWfFrom]
    · split
      · subst_vars
        split
        · exact memWfFrom_mono (by omega) rest hm.2
        · simp_all [memWfFrom]
      · simp only [memWfFrom, Bool.and_eq_true, decide_eq_true_eq]
        exact ⟨hm.1, ih (by omega) hm.2⟩

/-- A write of one word keeps the canonical form. -/
theorem memWf_memWrite (m : RecordMemory) (a : Nat) (v : Word) (hm : memWf m = true) : memWf (memWrite m a v) = true := by
  cases m with
  | nil => unfold memWrite; split <;> simp_all [memWf, memWfFrom]
  | cons c rest =>
    obtain ⟨k, w⟩ := c
    simp only [memWf, memWfFrom, Bool.and_eq_true] at hm
    unfold memWrite
    split
    · split <;> simp_all [memWf, memWfFrom]
    · split
      · subst_vars
        split
        · exact memWfFrom_none rest hm.2
        · simp_all [memWf, memWfFrom]
      · simp only [memWf, memWfFrom, Bool.and_eq_true]
        exact ⟨hm.1, memWfFrom_memWrite rest a v (by omega) hm.2⟩

/-- A write of a run of words keeps the canonical form. -/
theorem memWf_memWriteAll (ws : List Word) (m : RecordMemory) (a : Nat) (hm : memWf m = true) :
    memWf (memWriteAll m a ws) = true := by
  induction ws generalizing m a with
  | nil => exact hm
  | cons w ws ih => exact ih _ _ (memWf_memWrite m a w hm)

/-- A write of a slot keeps the canonical form. -/
theorem memWf_writeSlot (m : RecordMemory) (bank : Fin 8) (slot : Nat) (ws : List Word) (hm : memWf m = true) :
    memWf (writeSlot m bank slot ws) = true := memWf_memWriteAll ws m _ hm

/-- Unlisting entries keeps the form above any bound. -/
theorem memWfFrom_filter (p : Nat × Word → Bool) (m : RecordMemory) (lo : Nat) (hm : memWfFrom (some lo) m = true) :
    memWfFrom (some lo) (m.filter p) = true := by
  induction m generalizing lo with
  | nil => rfl
  | cons c rest ih =>
    simp only [memWfFrom, Bool.and_eq_true, decide_eq_true_eq] at hm
    rw [List.filter_cons]
    split
    · simp only [memWfFrom, Bool.and_eq_true, decide_eq_true_eq]
      exact ⟨hm.1, ih _ hm.2⟩
    · exact ih _ (memWfFrom_mono (by omega) rest hm.2)

/-- Unlisting a run of addresses keeps the canonical form. -/
theorem memWf_memErase (m : RecordMemory) (a n : Nat) (hm : memWf m = true) : memWf (memErase m a n) = true := by
  unfold memErase
  cases m with
  | nil => rfl
  | cons c rest =>
    simp only [memWf, memWfFrom, Bool.and_eq_true] at hm
    rw [List.filter_cons]
    split
    · simp only [memWf, memWfFrom, Bool.and_eq_true]
      exact ⟨hm.1, memWfFrom_filter _ rest _ hm.2⟩
    · exact memWfFrom_none _ (memWfFrom_filter _ rest _ hm.2)

/-- The memory after reset has the canonical form. -/
theorem memWf_reset : memWf State.reset.brs.mem = true := rfl

/-! ### Reading after writing -/

/-- A read below every address of the memory gives what an unlisted address reads as. -/
theorem memRead_below (m : RecordMemory) (a : Nat) (h : ∀ c ∈ m, a < c.1) : memRead m a = memDefault := by
  induction m with
  | nil => rfl
  | cons c rest ih =>
    have hc := h c (by simp)
    unfold memRead
    rw [if_neg (by omega)]
    exact ih fun d hd => h d (by simp [hd])

/-- A read of the address just written gives the word written. -/
theorem memRead_memWrite_self (m : RecordMemory) (a : Nat) (v : Word) (hm : memWf m = true) :
    memRead (memWrite m a v) a = v := by
  induction m with
  | nil => unfold memWrite; split <;> simp_all [memRead]
  | cons c rest ih =>
    obtain ⟨k, w⟩ := c
    simp only [memWf, memWfFrom, Bool.and_eq_true] at hm
    have hab := memWfFrom_above rest hm.2
    unfold memWrite
    split
    · split
      · rename_i h1 h2
        subst h2
        exact memRead_below _ a fun d hd => by
          rcases List.mem_cons.mp hd with rfl | hd
          · exact h1
          · have := hab d hd; omega
      · simp [memRead]
    · split
      · rename_i h2
        subst h2
        split
        · rename_i h3
          subst h3
          exact memRead_below rest a hab
        · simp [memRead]
      · rename_i h1 h2
        unfold memRead
        rw [if_neg (by omega)]
        exact ih (memWfFrom_none rest hm.2)

/-- A read of any other address gives what it gave before the write. -/
theorem memRead_memWrite_other (m : RecordMemory) (a b : Nat) (v : Word) (h : b ≠ a) :
    memRead (memWrite m a v) b = memRead m b := by
  induction m with
  | nil => unfold memWrite; split <;> simp [memRead, Ne.symm h]
  | cons c rest ih =>
    obtain ⟨k, w⟩ := c
    unfold memWrite
    split
    · split <;> simp [memRead, Ne.symm h]
    · split
      · subst_vars
        split <;> simp [memRead, Ne.symm h]
      · simp [memRead, ih]

/-- A write of a run of words leaves every address outside the run as it was. -/
theorem memRead_memWriteAll_other (ws : List Word) (m : RecordMemory) (a b : Nat) (h : b < a ∨ a + ws.length ≤ b) :
    memRead (memWriteAll m a ws) b = memRead m b := by
  induction ws generalizing m a with
  | nil => rfl
  | cons w ws ih =>
    simp only [List.length_cons] at h
    unfold memWriteAll
    rw [ih _ _ (by omega), memRead_memWrite_other _ _ _ _ (by omega)]

/-- A read inside the run just written gives the word written there. -/
theorem memRead_memWriteAll_inside (ws : List Word) (m : RecordMemory) (a i : Nat) (hm : memWf m = true)
    (hi : i < ws.length) : memRead (memWriteAll m a ws) (a + i) = ws.getD i memDefault := by
  induction ws generalizing m a i with
  | nil => simp at hi
  | cons w ws ih =>
    unfold memWriteAll
    cases i with
    | zero =>
      rw [memRead_memWriteAll_other ws _ _ _ (by omega)]
      simpa using memRead_memWrite_self m a w hm
    | succ j =>
      have := ih (memWrite m a w) (a + 1) j (memWf_memWrite m a w hm) (by simpa using hi)
      rw [show a + (j + 1) = a + 1 + j by omega, this]
      simp

/-- Unlisting a run of addresses makes each of them read as an unlisted one, and no other. -/
theorem memRead_memErase (m : RecordMemory) (a n b : Nat) :
    memRead (memErase m a n) b = if a ≤ b ∧ b < a + n then memDefault else memRead m b := by
  induction m with
  | nil => simp [memErase, memRead]
  | cons c rest ih =>
    obtain ⟨k, w⟩ := c
    simp only [memErase, List.filter_cons] at ih ⊢
    by_cases hk : a ≤ k ∧ k < a + n
    · simp only [hk.1, hk.2, decide_true, Bool.and_self, Bool.not_true, if_neg (by decide : ¬(false = true)), ih]
      by_cases hb : a ≤ b ∧ b < a + n
      · simp [hb]
      · rw [if_neg hb, if_neg hb]
        rw [show memRead ((k, w) :: rest) b = if k = b then w else memRead rest b from rfl,
          if_neg (by rintro rfl; exact hb hk)]
    · have : (!(decide (a ≤ k) && decide (k < a + n))) = true := by
        simp only [Bool.not_eq_true', Bool.and_eq_false_iff, decide_eq_false_iff_not]; omega
      rw [if_pos this]
      rw [show ∀ m, memRead ((k, w) :: m) b = if k = b then w else memRead m b from fun _ => rfl,
        show memRead ((k, w) :: rest) b = if k = b then w else memRead rest b from rfl, ih]
      by_cases hb : k = b
      · subst hb; simp [hk]
      · rw [if_neg hb, if_neg hb]

/-! ### Summary flags -/

/-- Setting summary flags keeps the canonical form. -/
theorem Brs.setFlags_memWf (r : Brs) (bank : Fin 8) (truncated timeUnset disagree : Bool) (h : memWf r.mem = true) :
    memWf (r.setFlags bank truncated timeUnset disagree).mem = true := by
  unfold Brs.setFlags; split
  · exact h
  · exact memWf_memWrite _ _ _ h

/-- Setting summary flags changes only the working flags, or word 9 of the bank's own summary. -/
@[simp] theorem Brs.setFlags_frame (r : Brs) (bank : Fin 8) (truncated timeUnset disagree : Bool) :
    (r.setFlags bank truncated timeUnset disagree).banks = r.banks ∧
    (r.setFlags bank truncated timeUnset disagree).interval = r.interval ∧
    (r.setFlags bank truncated timeUnset disagree).workBank = r.workBank ∧
    (r.setFlags bank truncated timeUnset disagree).counter = r.counter ∧
    (r.setFlags bank truncated timeUnset disagree).unrecordedImport = r.unrecordedImport ∧
    (r.setFlags bank truncated timeUnset disagree).unrecordedSessions = r.unrecordedSessions ∧
    (r.setFlags bank truncated timeUnset disagree).copy = r.copy ∧
    (r.setFlags bank truncated timeUnset disagree).vpCursor = r.vpCursor ∧
    (r.setFlags bank truncated timeUnset disagree).fpCursor = r.fpCursor := by
  unfold Brs.setFlags; split <;> simp

end Sys2Proof.Machine
end

