-- ==== Sys2Proof/Tests/Slice0.lean ====
section
/-! SUPPORT. The model's own tests. The smoke test of WellFormed; the spec's worked cases, each with the section its expected result
comes from; and one witness for each statement of the certificate that has hypotheses: concrete states and operands that meet
the hypotheses of each of its clauses. -/
namespace Sys2Proof.Tests
open Sys2Proof.Machine

/-- Whether a command answers a next state that satisfies `p`. -/
def runs (c : Instr) (s : State) (p : State → Bool) : Bool :=
  match exec c s with
  | .next t => p t
  | .fault _ => false
  | .refused _ => false

/-- The state after reset in session state `x`. -/
def inSession (x : Session) : State := State.reset.modCsc fun c => { c with session := x }

/-! ### WellFormed refuses each ill-formed command -/

theorem test_wellFormed_accepts_content : (Instr.contentClosed [true, false]).wellFormed = true := by decide
theorem test_wellFormed_refuses_empty_content : (Instr.contentClosed []).wellFormed = false := by decide
theorem test_wellFormed_refuses_six_ones :
    (Instr.contentClosed [true, true, true, true, true, true]).wellFormed = false := by decide
theorem test_wellFormed_refuses_empty_abort : (Instr.errorAbort []).wellFormed = false := by decide
theorem test_wellFormed_refuses_six_ones_in_abort :
    (Instr.errorAbort [false, true, true, true, true, true, true]).wellFormed = false := by decide
theorem test_wellFormed_refuses_empty_long : (Instr.errorLong []).wellFormed = false := by decide
theorem test_wellFormed_accepts_23_bits : (Instr.incompleteWord .vp 23).wellFormed = true := by decide
theorem test_wellFormed_refuses_24_bits : (Instr.incompleteWord .vp 24).wellFormed = false := by decide

/-! ### The queue and the table's missing bits -/

theorem test_step_idles : step State.reset = .next State.reset := rfl
theorem test_step_takes_the_front :
    step { State.reset with pending := [.setTime (.fill ⟨0, 0, 0, 0⟩), .powerOn] }
      = exec (.setTime (.fill ⟨0, 0, 0, 0⟩)) { State.reset with pending := [.powerOn] } := rfl
theorem test_no_row_gives_bits : decodeTableWord 24 0x200001 = none := rfl
theorem test_withFetchWord_keeps_the_state : State.reset.withFetchWord 24 0x200001 = State.reset := rfl

/-! ### Worked cases of the spec: operations -/

/-- Section 3.6.1: zero insertion of 7Eh FFh FFh 00h. -/
theorem test_zero_insertion :
    stuff (bitsOfBytes [0x7E, 0xFF, 0xFF, 0x00]) =
      [false, true, true, true, true, true, false, true, false] ++
      [true, true, true, true, true, false, true, true, true, true, true, false, true, true, true, true, true, false, true] ++
      [false, false, false, false, false, false, false, false] := by decide

/-- R48: a frame with its check bytes leaves 1D0Fh in the check register. -/
theorem test_check_residue :
    crc16 (bitsOfBytes ([0x44, 0x24, 0x42, 0x29, 0x00, 0xA0, 0x00, 0x3C]
      ++ checkBytes [0x44, 0x24, 0x42, 0x29, 0x00, 0xA0, 0x00, 0x3C])) = 0x1D0F := by decide +kernel

/-- Section 4.3.1: a healthy bus. -/
theorem test_resistances : resistances 500 ⟨6667, 13333⟩ ⟨17333, 2667, 20000⟩ = some (1999, 799) := by decide

/-- Section 4.3.2: the positive rail on the chassis. -/
theorem test_resistances_rail_on_chassis : resistances 500 ⟨150, 19850⟩ ⟨17333, 2667, 20000⟩ = some (0, 50000) := by decide

/-- Section 5.3.1: duty at 400 V and 32.0 Ω, at its limit. -/
theorem test_duty :
    (dutyFor { Bhc.reset 320 with vbus := 20000, grant := 1000 }, dutyFor { Bhc.reset 320 with vbus := 20000, grant := 2000 },
      dutyFor { Bhc.reset 320 with vbus := 20000, grant := 6000 }) = (205, 410, 1024) := by decide

/-- Section 6.4.1: correction, with a floor below zero and a saturation. -/
theorem test_correction :
    (corrected 11620 40 32500, corrected (-8000) 40 32500, corrected 32767 (-2048) 37000) = (11485, -7974, 32767) := by decide

/-- R116: the two sensors joined, rounded toward minus infinity. -/
theorem test_iac_floor : (combineIac ⟨some (-8003), false⟩ ⟨some (-7998), false⟩ .none).1.value = some (-8001) := by decide

/-- Section 7.5.4: rounding to cents. -/
theorem test_cents : (cents 57500000, cents 57549999, cents 57550000, cents 2937500) = (575, 575, 576, 29) := by decide

/-- Section 8.3.1: the lookup, at the edges of its spans. -/
theorem test_lookup :
    let table : List TariffEntry := [⟨21600, 2⟩, ⟨54000, 3⟩, ⟨79200, 0⟩]
    [3600, 21599, 21600, 53999, 54000, 86399].map (bandAt table) = [0, 0, 2, 2, 3, 0] := by decide

/-- R108: the sequence jumps from 14 to 1 with two frames missing. -/
theorem test_missing_frames : missingCount (some 14) 1 = 2 := by decide

/-! ### Worked cases of the spec: commands -/

/-- The inputs of section 2.3.1. -/
def allocationCase (x : Session) : State :=
  { State.reset with
    csc := { Csc.reset with session := x, enable := true, offer := some ⟨160, 60, 41⟩ }
    alc := { Alc.reset 940 with timer := some 100, vrms := 11500, vbus := 20000, currentLimit := 200, powerLimit := 11000 }
    bhc := { Bhc.reset 320 with st := .wait, mode := .plugged, demand := 1000, waits := ⟨true, false, false, false, false⟩ } }

/-- Section 2.3.1: one computation, in TRANSFER. -/
theorem test_allocation_in_transfer :
    runs .allocationTimerExpiry (allocationCase .transfer) (fun t =>
      t.alc.target = 86 ∧ t.alc.lastRequest = 160 ∧ t.alc.grant = 1000 ∧ t.alc.share = 2459 ∧ t.alc.setpoint = 10) = true := by
  decide

/-- Section 2.3.1: the same computation in STARTING. -/
theorem test_allocation_in_starting :
    runs .allocationTimerExpiry (allocationCase .starting) (fun t =>
      t.alc.target = 25 ∧ t.alc.lastRequest = 60 ∧ t.alc.share = 0) = true := by
  decide

/-- Section 3.4.1: the OFFER of sequence 41 reaches the queue while the dispatcher is busy. -/
theorem test_offer_is_received :
    runs (.contentClosed (frameBits [0x44, 0x24, 0x42, 0x29, 0x00, 0xA0, 0x00, 0x3C]))
      { State.reset with
        slc := { State.reset.slc with ownAddr := 0x44, rx := Rx.opened }
        csc := { Csc.reset with session := .ready, silence := some 1000, dispatcher := some ⟨0x24, .time 0 0⟩ } }
      (fun t => t.slc.queue = [⟨0x24, .offer 41 160 60⟩] ∧ t.csc.silence = some 0 ∧ t.slc.lastError = .none) = true := by
  decide +kernel

/-- Section 3.4.1: with two frames waiting the same frame is lost with RX_LOST. -/
theorem test_offer_is_lost :
    runs (.contentClosed (frameBits [0x44, 0x24, 0x42, 0x29, 0x00, 0xA0, 0x00, 0x3C]))
      { State.reset with
        slc := { State.reset.slc with ownAddr := 0x44, rx := Rx.opened, queue := [⟨0x24, .resume⟩, ⟨0x24, .resume⟩] }
        csc := { Csc.reset with session := .ready, silence := some 1000, dispatcher := some ⟨0x24, .time 0 0⟩ } }
      (fun t => t.slc.queue.length = 2 ∧ t.csc.silence = some 1000 ∧ t.vp.events = 0x0010) = true := by
  decide +kernel

/-- Section 3.4.1 and R51: outlet 4 gives match slot 0 the address 44h. -/
theorem test_assign_outlet_4 :
    runs .assign (inSession .linking |>.modCsc fun c => { c with dispatcher := some ⟨0x24, .assign 4 0x1234⟩ })
      (fun t => t.slc.ownAddr = 0x44 ∧ t.csc.session = .ready ∧ t.csc.identity = 0x1234) = true := by
  decide

/-- Section 7.5.1: the first substituted period. -/
theorem test_substituted_period :
    runs (.periodClose .listed)
      { State.reset with mtr := { State.reset.mtr with
          slot := 4001
          sums := { Sums.zero with ac := 368000000000, vacSq := 132250000 * 4000, iac := 8000 * 4000, n := 4000 }
          counts := { Counts.zero with fresh := 4000, substituted := true } } }
      (fun t => t.mtr.verif.net = ⟨8000000000, 1, 0⟩ ∧ t.mtr.verif.traction = ⟨8000000000, 1⟩ ∧ t.mtr.sess = SessionSet.clear none
        ∧ t.mtr.last.map (fun p => (p.vrms, p.route)) = some (11500, .verification)) = true := by
  decide

/-- Section 7.5.2: a split with rounding, credited to the session set. -/
theorem test_split_with_rounding :
    runs (.periodClose .listed)
      { State.reset with mtr := { State.reset.mtr with
          slot := 4001
          sums := { Sums.zero with
            ac := 440000000000, obc := 400000000000, htr := 123456789012, iac := 80000, iobc := 80000, ihtr := 80000, n := 4000 }
          latches := { State.reset.mtr.latches with session := some 317, band := 2, price := 2875, creep := 0 }
          sess := { SessionSet.clear (some 317) with
            traction := (Quad.fill ⟨0, 0⟩).set 2 ⟨300000000000, 0⟩, heating := (Quad.fill ⟨0, 0⟩).set 2 ⟨250000000000, 0⟩ } } }
      (fun t => t.mtr.sess.traction.get 2 = ⟨244197532087, 1⟩ ∧ t.mtr.sess.heating.get 2 = ⟨25802467913, 1⟩
        ∧ t.mtr.sess.net = ⟨80000000000, 1, 0⟩ ∧ t.mtr.sess.dcOut = ⟨40000000000, 1⟩ ∧ t.mtr.sess.heaterDc = ⟨123456789012, 0⟩
        ∧ t.mtr.sess.tractionTicks = 2875 ∧ t.mtr.sess.heatingTicks = 2875) = true := by
  decide

/-- Section 7.5.3, period 1: exported energy carries an export watt-hour. -/
theorem test_export_carry : (NetAcc.feed ⟨100000000000, 5, 0⟩ (-500000000000)) = ⟨-40000000000, 5, 1⟩ := by decide

/-- Section 10.7, word 7: a write under the snapshot. -/
theorem test_refusal_word :
    runs (.obcAcRating 0x0100) { State.reset with vp := { State.reset.vp with snapshot := some [] } }
      (fun t => t.vp.lastRefusal = 0x032A ∧ t.vp.events = 0x8000 ∧ t.alc.rating = 320) = true := by
  decide

/-- Section 10.7, words 3 and 4: the import total of 70,001 Wh is read in two words. -/
theorem test_import_words :
    let s := { State.reset with mtr := { State.reset.mtr with sess := { SessionSet.clear (some 318) with net := ⟨0, 70001, 0⟩ } } }
    (itemValue .vp 0x60 s, itemValue .vp 0x61 s) = (0x0001, 0x1171) := by decide

/-- R3 and R66: the first HELLO after a plug-in goes from 5Fh with family 72 and the rating. -/
theorem test_first_hello :
    runs .plugDetectRise State.reset (fun t =>
      waitingFrame t.slc .hello = some ⟨0x3F, 0x5F, 0x81, [72, 0x01, 0x40]⟩ ∧ t.csc.session = .linking) = true := by
  decide

/-- The state after a start-up at which a word of the vehicle port's window has completed, or its select level is low. -/
def startedInWindow (opened low : Bool) : State :=
  State.reset.modVp fun p => ({ p with windowOpen := opened }).startUp fun _ => low

/-- R185: a window whose select fell before start-up is ignored until select rises, whether or not a word completed in it. -/
theorem test_old_window_is_ignored :
    ([startedInWindow true false, startedInWindow false true].all fun s =>
      runs (.obcAcRating 200) s (fun u => u == s) && runs (.incompleteWord .vp 0) s (fun u =>
        runs (.obcAcRating 200) u fun w => w.alc.rating == 200)) = true
    ∧ runs (.obcAcRating 200) (startedInWindow false false) (fun w => w.alc.rating == 200) = true := by
  decide

/-- R76 and R99: a stale pack temperature takes a heater from QUIET, whose duty is 0 already, to WAIT; the monitor is told, and the
phase in progress restarts. -/
theorem test_leaving_quiet_restarts_the_phase :
    runs .stalenessTimerExpiry
      ((State.reset.modImn fun m => { m with st := .averageB, count := 200 }).modBhc fun b =>
        { b with st := .quiet, quiet := true, mode := .plugged, demand := 1000, staleT := some 5000 })
      (fun t => t.bhc.st = .wait ∧ t.imn.st = .settleB ∧ t.imn.restarts = 1 ∧ t.bhc.quiet = false) = true := by
  decide

/-- R10: in CHECKING a FAULT with cause BUS ends the wait, from a cycle that began before the CHECK too. -/
theorem test_bus_fault_ends_checking :
    runs (.averagingEnd .listed)
      (State.reset.modImn (fun m =>
        { m with st := .averageB, count := 256, avgA := some ⟨6667, 13333⟩, sumP := 17333 * 256, sumN := 2667 * 256, sumV := 20000 * 256
                 bridge := 100, faultThreshold := 400, isolatedA := true, isolatedB := true, faultCount := 1, checkPending := true })
        |>.modCsc fun c => { c with session := .checking, checkingT := some 30000 })
      (fun t => t.csc.session = .ended ∧ t.csc.stopReason = some .insulationFault ∧ t.imn.checkPending = false
        ∧ t.csc.checkingT = none) = true := by
  decide

/-- R2 and R55: an AUTH that the dispatcher takes in UNPLUGGED is discarded, also where a plug rise comes before its handling ends. -/
theorem test_frame_taken_in_unplugged_is_discarded :
    let s := (dispatcherTake (State.reset.modSlc fun l => { l with queue := [⟨0x24, .auth 5⟩, ⟨0x24, .auth 6⟩] }))
    runs .plugDetectRise s (fun t => t.csc.session = .linking ∧ runs .auth t (fun u =>
      u.csc.authRef = 0xFFFFFFFF ∧ u.csc.takenUnplugged = false ∧ runs .auth u fun v => v.csc.authRef == 6)) = true := by
  decide

/-- R47: seven 1s that close 240 held bits note LONG. -/
theorem test_long_at_the_seventh_one :
    runs (.errorAbort (stuff (List.replicate 240 false))) (State.reset.modSlc fun l => { l with rx := Rx.opened })
      (fun t => t.slc.lastError = .long ∧ t.slc.rx.st = .skip) = true := by
  decide +kernel

/-! ### Witnesses: the queue, power-on, restart and the input lines -/

/-- The state after reset with the plug present. -/
def plugged : State := State.reset.modPins fun p => { p with plug := true }

theorem witness_StepRunsTheFrontCommand :
    ({ State.reset with pending := [.resume, .stop] } : State).pending = .resume :: [.stop] ∧ State.reset.pending = [] := ⟨rfl, rfl⟩

theorem witness_PowerOnStartsEveryBlock :
    (State.reset.pins.plug = false
      ∧ ∀ b, (State.reset.brs.banks.get b).st = .free ∨ (State.reset.brs.banks.get b).st = .closed)
    ∧ plugged.pins.plug = true := by decide

theorem witness_PowerOnClosesBanksLeftOpen :
    memWf { Brs.reset with mem := [(9, 0x0010), (8191, 0)], banks := Brs.reset.banks.set 0 ⟨.openBank, 2⟩ }.mem = true := by decide

/-- A restart that meets a live session, a retest with one good cycle and a kept heater fault. -/
def restartCase (x : Session) : State :=
  (inSession x).modImn fun m => { m with retest := some ⟨1, 2⟩, latch := true, verdict := .fault, cause := .heater }

theorem witness_RestartReturnsTheVehicleSide :
    (restartCase .hold).vp.takesWrites ∧ (∀ r, (restartCase .hold).imn.retest = some r → r.good < 2)
    ∧ (restartCase .hold).csc.session.isOpen = true ∧ (restartCase .checking).csc.session = .checking
    ∧ (restartCase .ready).csc.session.isOpen = false ∧ (restartCase .ready).csc.session ≠ .checking
    ∧ (restartCase .hold).pins.plug = false := by
  refine ⟨by decide, ?_, by decide, by decide, by decide, by decide, by decide⟩
  rintro _ ⟨⟩
  decide

theorem witness_PlugRiseEntersLinking :
    plugged.pins.plug = true
    ∧ (State.reset.pins.plug = false ∧ State.reset.csc.session = .unplugged ∧ State.reset.bhc.quiet = false
        ∧ State.reset.bhc.mode ≠ .parked)
    ∧ (State.reset.modBhc fun b => { b with mode := .parked, run := some ⟨1000, 500, 0⟩ }).bhc.mode = .parked := by decide

/-- A session in state `x` with the plug present and an OPEN bank. -/
def pluggedIn (x : Session) : State :=
  (plugged.modCsc fun c => { c with session := x }).modBrs fun r => { r with banks := r.banks.set 3 ⟨.openBank, 2⟩ }

theorem witness_PlugFallEndsTheAttempt :
    State.reset.pins.plug = false ∧ (plugged.pins.plug = true ∧ plugged.csc.session = .unplugged)
    ∧ ((pluggedIn .transfer).pins.plug = true ∧ (pluggedIn .transfer).csc.session ≠ .unplugged
        ∧ (pluggedIn .transfer).csc.session.isOpen = true ∧ openBank (pluggedIn .transfer) = some 3
        ∧ (pluggedIn .transfer).csc.stopReason ≠ some .supplyLoss ∧ (pluggedIn .transfer).csc.session = .transfer) := by decide

/-- The heater in state `x`, with its unlock test when `test`, the isolation timer running. -/
def unlockIn (x : HeaterState) (test : Bool) : State :=
  State.reset.modBhc fun b => { b with st := x, waits := ⟨false, false, false, false, test⟩, isolationT := some 200 }

theorem witness_SupplyFailClosesAtOnce :
    (pluggedIn .hold).pins.supplyFail = false ∧ (pluggedIn .hold).csc.session.isOpen = true ∧ openBank (pluggedIn .hold) = some 3
    ∧ ((inSession .checking).pins.supplyFail = false ∧ (inSession .checking).csc.session = .checking
        ∧ (inSession .checking).csc.stopReason = none)
    ∧ ((inSession .ready).csc.session.isOpen = false ∧ (inSession .ready).csc.session ≠ .checking)
    ∧ ((allocationCase .transfer).bhc.st = .wait ∧ (allocationCase .transfer).bhc.waits.unlockTest = false
        ∧ (allocationCase .transfer).pins.supplyFail = false)
    ∧ ((State.reset.modBhc fun b => { b with st := .wait, waits := ⟨false, false, false, false, true⟩ }).bhc.st = .wait
        ∧ (State.reset.modBhc fun b => { b with st := .wait, waits := ⟨false, false, false, false, true⟩ }).bhc.waits.unlockTest
          = true)
    ∧ ((unlockIn .isolated true).pins.supplyFail = false ∧ (unlockIn .isolated true).bhc.st = .isolated
        ∧ (unlockIn .isolated true).bhc.waits.unlockTest = true ∧ (unlockIn .isolated true).bhc.spentPending = false
        ∧ (unlockIn .isolated true).imn.st.isAveraging = false)
    ∧ ((unlockIn .isolated false).bhc.st = .isolated ∧ (unlockIn .isolated false).bhc.waits.unlockTest = false
        ∧ (unlockIn .isolated false).imn.st.isAveraging = false)
    ∧ ((unlockIn .spent false).bhc.st = .spent ∧ (unlockIn .spent false).bhc.waits.unlockTest = false)
    ∧ ((pluggedIn .transfer).pins.supplyFail = false ∧ (pluggedIn .transfer).csc.session = .transfer) := by decide

/-- Session state `x` with converter ready and converter fault at the given levels. -/
def linesAt (x : Session) (ready fault : Bool) : State := (inSession x).modPins fun p => { p with ready := ready, fault := fault }

theorem witness_ConverterLinesMoveTheSession :
    ((linesAt .starting false false).pins.ready = false ∧ (linesAt .starting false false).csc.session = .starting)
    ∧ (linesAt .ready false false).csc.session ≠ .starting
    ∧ ((linesAt .hold true false).pins.ready = true ∧ (linesAt .hold true false).csc.session = .hold
        ∧ (linesAt .hold true false).csc.stopReason = none ∧ (linesAt .transfer true false).csc.session = .transfer)
    ∧ ((linesAt .starting true false).csc.session ≠ .transfer ∧ (linesAt .starting true false).csc.session ≠ .hold)
    ∧ ((linesAt .starting true false).pins.fault = false ∧ (linesAt .starting true false).csc.session.isLive = true)
    ∧ ((linesAt .stopping true false).pins.fault = false ∧ (linesAt .stopping true false).csc.session = .stopping)
    ∧ (linesAt .checking true false).csc.session.isOpen = false
    ∧ ((linesAt .hold true true).pins.fault = true ∧ (linesAt .hold true true).csc.session ≠ .ready
        ∧ (linesAt .hold true true).csc.session ≠ .ended) := by decide

/-- READY or ENDED with the authorization given, a valid offer of one deciamp above its minimum, and the line levels given. -/
def waiting (x : Session) (auth fault supplyFail : Bool) : State :=
  ((inSession x).modCsc fun c => { c with auth := auth, offer := some ⟨60, 60, 1⟩ }).modPins fun p =>
    { p with fault := fault, supplyFail := supplyFail }

theorem witness_CheckingIsEnteredWhenTheConditionsHold :
    ((waiting .ready false false false).csc.session = .ready ∧ (waiting .ready false false false).vp.takesWrites
        ∧ offerValid (waiting .ready false false false) = true ∧ (waiting .ready false false false).asm.subst = .off
        ∧ (waiting .ready false false false).pins.fault = false ∧ (waiting .ready false false false).pins.supplyFail = false
        ∧ (waiting .ready false false false).imn.st = .idle ∧ (waiting .ready false false false).imn.checkPending = false)
    ∧ ((waiting .ended false true false).csc.session = .ended ∧ (waiting .ended false true false).pins.fault ≠ false)
    ∧ ((waiting .ended true true false).pins.fault = true ∧ (waiting .ended true true false).csc.auth = true
        ∧ offerValid (waiting .ended true true false) = true ∧ (waiting .ended true true false).pins.supplyFail = false)
    ∧ ((waiting .ended false true false).pins.fault = true ∧ (waiting .ended false true false).csc.auth ≠ true)
    ∧ ((waiting .ready true false true).pins.supplyFail = true ∧ (waiting .ready true false true).csc.auth = true
        ∧ offerValid (waiting .ready true false true) = true ∧ (waiting .ready true false true).pins.fault = false)
    ∧ ((waiting .ready false false true).pins.supplyFail = true ∧ (waiting .ready false false true).csc.auth ≠ true) := by decide

/-- LINKING with the HELLO timer running, at a count, with or without STATION_ABSENT raised. -/
def linking (count : Nat) (absent : Bool) : State :=
  (inSession .linking).modCsc fun c => { c with helloT := some 5000, helloCount := count, absentRaised := absent }

/-! ### Witnesses: station frames and the session's timers -/

/-- Session state `x` with the dispatcher holding a message of a talker. -/
def handling (x : Session) (src : Byte) (m : StationMsg) : State :=
  (inSession x).modCsc fun c => { c with dispatcher := some ⟨src, m⟩ }

/-- The same with the frame taken in UNPLUGGED, before a plug rise. -/
def handlingOld (m : StationMsg) : State := (handling .linking 0x24 m).modCsc fun c => { c with takenUnplugged := true }

theorem witness_AssignFollowsItsRule :
    ((handling .linking 0x24 (.assign 31 7)).csc.dispatcher = some ⟨0x24, .assign 31 7⟩ ∧ roleOf 0x24 = 1 ∧ 31 ≤ 31)
    ∧ ((handling .linking 0x24 (.assign 30 7)).csc.takenUnplugged = false
        ∧ (handlingOld (.assign 30 7)).csc.takenUnplugged = true ∧ (handlingOld (.assign 30 7)).csc.session = .linking)
    ∧ (30 < 31 ∧ (handling .linking 0x24 (.assign 30 7)).csc.session = .linking)
    ∧ (handling .ended 0x24 (.assign 30 7)).csc.session = .ended
    ∧ ((handling .hold 0x24 (.assign 30 7)).csc.session ≠ .linking ∧ (handling .hold 0x24 (.assign 30 7)).csc.session ≠ .ready
        ∧ (handling .hold 0x24 (.assign 30 7)).csc.session ≠ .ended) := by decide

/-- A READY session that is authorized when an OFFER of maximum `m` and minimum 60 is handled. -/
def offered (x : Session) (m : Nat) : State := (handling x 0x24 (.offer 2 m 60)).modCsc fun c => { c with auth := true }

theorem witness_OfferIsStoredAndActedOn :
    ((offered .unplugged 60).csc.dispatcher = some ⟨0x24, .offer 2 60 60⟩ ∧ roleOf 0x24 = 1
        ∧ (offered .unplugged 60).csc.session = .unplugged ∧ (handlingOld (.offer 2 60 60)).csc.takenUnplugged = true
        ∧ (offered .ready 60).csc.takenUnplugged = false)
    ∧ ((offered .ready 60).csc.session = .ready ∧ (offered .ready 60).csc.session.keepsHolds = true ∧ (60 : Nat) ≤ 60
        ∧ (offered .ready 60).csc.auth = true ∧ (offered .ready 60).asm.subst = .off ∧ (offered .ready 60).pins.fault = false
        ∧ (offered .ready 60).pins.supplyFail = false)
    ∧ ((offered .ended 59).csc.session = .ended ∧ ¬ (60 : Nat) ≤ 59)
    ∧ (offered .linking 60).csc.session.keepsHolds = false
    ∧ ((offered .transfer 59).csc.session = .transfer ∧ (offered .transfer 59).csc.holds = HoldSet.empty)
    ∧ (((offered .hold 60).modCsc fun c => { c with holds := { HoldSet.empty with offerZero := true } }).csc.holds
        = { HoldSet.empty with offerZero := true })
    ∧ (((offered .starting 60).modSlc fun l =>
          { l with table := { TxTable.empty with request := ⟨some ⟨0x24, 0x44, 0x82, [0, 60, 4, 1]⟩, 0, none⟩ } }).slc.table.request.frame.isSome
        = true ∧ (offered .starting 60).csc.offer ≠ some ⟨60, 60, 2⟩) := by decide

theorem witness_StationFramesFollowTheirTable :
    (roleOf 0x64 ≠ 1 ∧ (handling .ready 0x64 .resume).csc.dispatcher = some ⟨0x64, .resume⟩)
    ∧ (roleOf 0x24 = 1 ∧ (handling .unplugged 0x24 (.auth 5)).csc.session = .unplugged)
    ∧ ((handlingOld .resume).csc.takenUnplugged = true ∧ (handlingOld .resume).csc.dispatcher = some ⟨0x24, .resume⟩
        ∧ (handling .ready 0x24 (.auth 5)).csc.takenUnplugged = false)
    ∧ ((handling .ready 0x24 (.auth 5)).csc.session ≠ .unplugged ∧ (handling .ready 0x24 (.auth 5)).csc.session.isOpen = false)
    ∧ ((pluggedIn .hold).csc.session.isOpen = true ∧ openBank (pluggedIn .hold) ≠ none)
    ∧ ((State.reset.modTtc fun t => { t with source := .fleet }).ttc.source = .fleet)
    ∧ ((handling .linking 0x24 (.time 1 86399)).csc.session ≠ .unplugged
        ∧ (handling .linking 0x24 (.time 1 86399)).ttc.source ≠ .fleet)
    ∧ (handling .linking 0x24 (.pause 0)).csc.session = .linking
    ∧ (handling .ended 0x24 (.pause 65535)).csc.session.keepsHolds = true
    ∧ ((handling .hold 0x24 .resume).csc.holds.stationPause = false)
    ∧ (((handling .hold 0x24 .resume).modCsc fun c => { c with holds := { HoldSet.empty with stationPause := true } }).csc.holds.stationPause
        = true)
    ∧ (handling .ended 0x24 (.stop 1)).csc.session = .ended
    ∧ ((handling .checking 0x24 (.stop 1)).csc.session = .checking ∧ (handling .checking 0x24 (.stop 1)).csc.stopReason = none)
    ∧ (handling .starting 0x24 (.stop 1)).csc.session.isLive = true
    ∧ (handling .stopping 0x24 (.stop 1)).csc.session = .stopping
    ∧ (memWf (pluggedIn .stopping).brs.mem = true ∧ openBank (pluggedIn .stopping) = some 3
        ∧ ((pluggedIn .stopping).brs.banks.get 3).next < 64) := by decide

/-- Session state `x` with the silence timer and the link-loss age at a mark. -/
def silent (x : Session) (mark : Timer) : State := (inSession x).modCsc fun c => { c with silence := mark, linkAge := mark }

theorem witness_SilenceActsAtItsMarks :
    ((silent .transfer (some 0)).csc.silence = some 0 ∧ (silent .transfer (some 0)).csc.session.keepsHolds = true)
    ∧ (silent .transfer (some 1000)).csc.silence ≠ some 0
    ∧ ((silent .checking (some 1000)).csc.silence = some 1000 ∧ (silent .checking (some 1000)).csc.session = .checking)
    ∧ (silent .hold (some 1000)).csc.session.isLive = true
    ∧ (silent .stopping (some 1000)).csc.session = .stopping
    ∧ (silent .ready none).csc.silence ≠ some 1000 := by decide

/-- Session state `x` with every timer of the controller running and no stop reason. -/
def timersOn (x : Session) : State :=
  (pluggedIn x).modCsc fun c =>
    { c with pauseT := some 1000, checkingT := some 30000, readyT := some 2000, stoppingT := some 1000, requestT := some 1000,
             meterT := some 60000, statusT := some 5000, holds := { HoldSet.empty with stationPause := true } }

/-- Session state `x` at the close of a period that began in it, with 4,000 counting slots of a mean converter current. -/
def closingAt (x : Session) (mean : Nat) : State :=
  (timersOn x).modMtr fun m =>
    { m with slot := 4001, sums := { Sums.zero with n := 4000, iobc := mean * 4000 },
             latches := { m.latches with stopping := x == .stopping } }

theorem witness_HoldAndWaitTimersAct :
    ((timersOn .hold).csc.pauseT.isSome = true ∧ (timersOn .hold).csc.session.keepsHolds = true
        ∧ (timersOn .hold).csc.holds.stationPause = true)
    ∧ ((timersOn .ready).csc.session ≠ .hold ∧ (timersOn .ready).csc.session ≠ .transfer)
    ∧ ((silent .starting (some 0)).csc.linkAge = some 0 ∧ (silent .starting (some 0)).csc.session.isLive = true)
    ∧ (silent .ready (some 0)).csc.session.isLive = false
    ∧ ((timersOn .checking).csc.checkingT.isSome = true ∧ (timersOn .checking).csc.session = .checking
        ∧ (timersOn .checking).csc.stopReason = none)
    ∧ ((timersOn .starting).csc.readyT.isSome = true ∧ (timersOn .starting).csc.session = .starting)
    ∧ ((timersOn .stopping).csc.stoppingT.isSome = true ∧ (timersOn .stopping).csc.session = .stopping
        ∧ openBank (timersOn .stopping) = some 3 ∧ 2 ≤ ((timersOn .stopping).brs.banks.get 3).next
        ∧ (timersOn .stopping).csc.stopReason ≠ some .supplyLoss ∧ (timersOn .stopping).alc.timer = none)
    ∧ ((closingAt .stopping 499).mtr.slot = 4001 ∧ (closingAt .stopping 499).csc.session = .stopping
        ∧ (closingAt .stopping 499).mtr.latches.stopping = true ∧ (closingAt .stopping 499).mtr.sums.n = 4000
        ∧ (closingAt .stopping 499).mtr.sums.iobc / 4000 < 500)
    ∧ ¬ (closingAt .stopping 500).mtr.sums.iobc / 4000 < 500 := by decide

theorem witness_FrameTimersScheduleFrames :
    ((timersOn .starting).csc.requestT.isSome = true ∧ (timersOn .starting).csc.session.isLive = true)
    ∧ (timersOn .stopping).csc.session.isLive = false
    ∧ ((timersOn .transfer).csc.meterT.isSome = true ∧ (timersOn .transfer).csc.session = .transfer
        ∧ (timersOn .transfer).csc.unrecorded = false ∧ openSession (timersOn .transfer) = some 65535)
    ∧ ((timersOn .hold).modCsc fun c => { c with unrecorded := true }).csc.unrecorded = true
    ∧ (timersOn .ended).csc.statusT.isSome = true
    ∧ ((linking 2 false).csc.session = .linking ∧ (linking 2 false).csc.helloT.isSome = true ∧ (linking 2 false).csc.helloCount < 3)
    ∧ (linking 3 true).csc.absentRaised = true
    ∧ ((linking 3 false).csc.absentRaised = false ∧ 3 ≤ (linking 3 false).csc.helloCount) := by decide

theorem witness_SessionCommandsFollowTheirTable :
    (inSession .unplugged).vp.takesWrites
    ∧ (inSession .stopping).csc.session = .stopping ∧ (inSession .ended).csc.session = .ended
    ∧ (inSession .starting).csc.session.isLive = true ∧ (inSession .linking).csc.session = .linking
    ∧ ((inSession .transfer).csc.session = .transfer ∧ (inSession .transfer).csc.session.isLive = true)
    ∧ ((inSession .ready).csc.session ≠ .unplugged ∧ (inSession .ready).csc.session ≠ .linking)
    ∧ (timersOn .hold).csc.session = .hold
    ∧ ((timersOn .hold).modCsc fun c => { c with holds := { HoldSet.empty with vehiclePause := true } }).csc.holds.vehiclePause = true
    ∧ ((inSession .checking).csc.session = .checking ∧ (inSession .checking).csc.stopReason = none) := by decide

theorem witness_HoldChangesTakeTheirSteps :
    (inSession .linking).csc.session.keepsHolds = false
    ∧ (inSession .ready).csc.holds.has .noVoltage = false
    ∧ ((pluggedIn .transfer).csc.session.keepsHolds = true ∧ (pluggedIn .transfer).csc.holds.has .bandWait = !true
        ∧ memWf (pluggedIn .transfer).brs.mem = true ∧ openBank (pluggedIn .transfer) = some 3
        ∧ ((pluggedIn .transfer).brs.banks.get 3).next < 64 ∧ (pluggedIn .transfer).csc.session.isLive = true
        ∧ (pluggedIn .transfer).csc.session = .transfer ∧ (pluggedIn .transfer).csc.holds.put .bandWait true ≠ HoldSet.empty)
    ∧ ((timersOn .hold).csc.session = .hold ∧ (timersOn .hold).csc.holds.has .stationPause = !false)
    ∧ ((timersOn .checking).csc.session.keepsHolds = true ∧ (timersOn .checking).csc.holds.has .stationPause = !false)
    ∧ (HoldReason.noVoltage ≠ .bandWait) := by decide

theorem witness_AllocationExpiryComputes :
    (allocationCase .stopping).alc.timer.isSome = true ∧ (allocationCase .stopping).csc.session.isOpen = true
    ∧ ((allocationCase .transfer).bhc.mode = .plugged ∧ (allocationCase .transfer).bhc.st ≠ .lockedOut
        ∧ (allocationCase .transfer).bhc.quiet = false)
    ∧ 5 ≤ (160 - (allocationCase .transfer).csc.lastField) + ((allocationCase .transfer).csc.lastField - 160) := by decide

theorem witness_AllocationStaysWithinItsBounds :
    (allocationCase .transfer).alc.timer.isSome = true ∧ 0 < (allocationCase .transfer).alc.efficiency
    ∧ ((allocationCase .transfer).csc.offer = some ⟨160, 60, 41⟩ ∧ (Offer.valid ⟨160, 60, 41⟩) = true)
    ∧ offerValid (timersOn .transfer) = false := by decide

/-! ### Witnesses: the station line -/

/-- The state after reset with the receiver just past a delimiter. -/
def opened : State := State.reset.modSlc fun l => { l with rx := Rx.opened }

theorem witness_IntactStationFrameReachesTheQueue :
    (opened.slc.rx = Rx.opened ∧ 0 < [true].length ∧ (List.replicate 239 true).length < 240)
    ∧ (opened.slc.rx = Rx.opened ∧ opened.slc.addressed 0x5F = true ∧ roleOf 0x3F ≠ 2 ∧ ([4, 0x12, 0x34] : List Byte).length ≤ 24
      ∧ fieldTest 0x41 [4, 0x12, 0x34] = .accepted (.assign 4 0x1234) ∧ opened.slc.queue = [] ∧ opened.csc.dispatcher = none
      ∧ roleOf 0x3F = 1)
    ∧ ((opened.modCsc fun c => { c with dispatcher := some ⟨0x24, .resume⟩ }).csc.dispatcher.isSome = true
      ∧ (opened.modSlc fun l => { l with queue := [⟨0x24, .resume⟩] }).slc.queue.length < 2)
    ∧ 2 ≤ (opened.modSlc fun l => { l with queue := [⟨0x24, .resume⟩, ⟨0x24, .resume⟩] }).slc.queue.length
    ∧ ((0x40 : Byte) ∉ ([0x41, 0x42, 0x43, 0x44, 0x45, 0x46, 0x47] : List Byte))
    ∧ ((0x48 : Byte) ∉ ([0x41, 0x42, 0x43, 0x44, 0x45, 0x46, 0x47] : List Byte)) := by decide +kernel

theorem witness_LineErrorsAreNoted :
    (opened.slc.rx = Rx.opened ∧ contentBits [false] = true ∧ false ∈ [false] ∧ [false].length < 240)
    ∧ (List.replicate 240 false).length = 240
    ∧ ((List.replicate 39 false).length % 8 ≠ 0 ∧ 0 < (List.replicate 39 false).length)
    ∧ ((List.replicate 32 false).length % 8 = 0 ∧ (List.replicate 32 false).length < 40)
    ∧ ((List.replicate 40 false).length % 8 = 0 ∧ 40 ≤ (List.replicate 40 false).length
        ∧ crc16 (List.replicate 40 false) ≠ 0x1D0F)
    ∧ ((List.replicate 240 false).getLast? = some false ∧ contentBits [true, true, true, true, true] = true
        ∧ false ∉ [true, true, true, true, true])
    ∧ (roleOf 0x24 ≠ 2 ∧ opened.slc.addressed 0x5F = true ∧ fieldTest 0x41 [4, 0x12] = .wrongLength
        ∧ ([4, 0x12] : List Byte).length ≤ 24 ∧ ((0x41 : Byte), 3) ∈ [((0x41 : Byte), 3), (0x42, 5)])
    ∧ (roleOf 0x44 = 2 ∧ opened.slc.addressed 0x41 = false ∧ fieldTest 0x48 [] = .ignored)
    ∧ State.reset.slc.rx.st ≠ .assemble := by decide +kernel

/-- A frame of the part, and a table that holds it as a STATUS. -/
def someStatus : TxFrame := partFrame .status 0x44 [0, 1, 0]

/-- The state after reset with a STATUS waiting, the line high for `idle` bit times. -/
def statusWaits (idle : Nat) : State :=
  State.reset.modSlc fun l => { l with idle := idle, table := { TxTable.empty with status := ⟨some someStatus, 0, none⟩ } }

/-- R59: with 20 bit times to come, a STATUS begins after the 10th; a STOP scheduled at an idle count of 9 needs none. -/
theorem test_access_begins_at_its_bit_time :
    runs (.txAccessStart 20) (statusWaits 0) (fun t =>
      t.slc.idle = 10 ∧ t.slc.sending = some (onTheLine .status someStatus false)) = true := by decide +kernel
theorem test_stop_begins_at_the_next_bit_time :
    runs (.txAccessStart 20)
      ((statusWaits 9).modSlc fun l => { l with table := { l.table with stop := ⟨some someStatus, 0, none⟩ } })
      (fun t => t.slc.idle = 9 ∧ t.slc.sending = some (onTheLine .stop someStatus false)) = true := by decide +kernel

theorem witness_AccessBeginsWithTheHighestEntry :
    ((statusWaits 9).slc.sending = none ∧ ((statusWaits 9).slc.table.get .status).frame = some someStatus)
    ∧ (∀ k' : TxKind, k'.rank < TxKind.status.rank → ((statusWaits 9).slc.table.get k').frame = none)
    ∧ (10 ≤ (statusWaits 9).slc.idle + 1 ∧ (statusWaits 9).slc.idle + 0 < 10 ∧ 10 ≤ (statusWaits 0).slc.idle + 20
        ∧ 10 ≤ (statusWaits 10).slc.idle + 0)
    ∧ (∀ k : TxKind, (State.reset.slc.table.get k).frame = none)
    ∧ ((statusWaits 9).modSlc fun l => l.begin .status 0).slc.sending = some (onTheLine .status someStatus false) := by
  refine ⟨by decide, ?_, by decide, ?_, by decide +kernel⟩ <;> intro k <;> cases k <;> decide

theorem witness_FrameEndsUpdateTheTable :
    (roleOf someStatus.src = 2 ∧ someStatus.payload.length ≤ 20 ∧ State.reset.slc.rx.st ≠ .assemble ∧ opened.slc.rx = Rx.opened)
    ∧ (∀ k' : TxKind, k' ≠ .status → ((statusWaits 0).slc.table.get k').frame = none)
    ∧ ((statusWaits 0).slc.table.get .status).frame = some someStatus ∧ (statusWaits 0).slc.table.get .hello = TxEntry.empty
    ∧ (∀ k'' : TxKind, k'' ≠ .hello → k''.rank < TxKind.status.rank → ((statusWaits 0).slc.table.get k'').frame = none)
    ∧ (29 < (onTheLine .hello someStatus false).arbitration ∧ (onTheLine .hello someStatus false).bits[29]? = some true)
    ∧ (onTheLine .hello someStatus false).bits[31]? = some false
    ∧ ((onTheLine .hello someStatus false).arbitration ≤ 32 ∧ (onTheLine .hello someStatus false).bits[32]?.isSome = true) := by
  refine ⟨by decide, ?_, by decide, by decide, ?_, by decide +kernel, by decide +kernel, by decide +kernel⟩ <;> intro k <;> cases k <;> decide

/-! ### Witnesses: insulation and heating -/

/-- The state after reset with the monitor in a cycle state of a kind, 256 counting slots taken. -/
def cycleAt (st : CycleState) (kind : CycleKind) : State :=
  State.reset.modImn fun m =>
    { m with st := st, kind := kind, count := 256, settleReady := true, avgA := some ⟨6667, 13333⟩, sumP := 17333 * 256,
             sumN := 2667 * 256, sumV := 20000 * 256 }

/-- A cycle at its end with R_M and the two thresholds given, over the averages of section 4.3.1: the minimum is 159 kΩ at R_M 100
and 799 kΩ at R_M 500, and a threshold of 397 gives a limit of 159 kΩ. -/
def cycleEnd (kind : CycleKind) (rM warn fault : Nat) : State :=
  (cycleAt .averageB kind).modImn fun m => { m with bridge := rM, warnThreshold := warn, faultThreshold := fault }

/-- The minimum and the two limits of a cycle at its end, as the statements compute them. -/
def marks (s : State) : Option (Int × Int × Int) :=
  match s.imn.avgA with
  | none => none
  | some a =>
    let b : AveragesB := ⟨Int.fdiv s.imn.sumP 256, Int.fdiv s.imn.sumN 256, Int.fdiv s.imn.sumV 256⟩
    (resistances s.imn.bridge a b).map fun x =>
      (((min x.1 x.2 : Nat) : Int), Int.fdiv (s.imn.warnThreshold * Int.fdiv b.vbus 50 + 999) 1000,
        Int.fdiv (s.imn.faultThreshold * Int.fdiv b.vbus 50 + 999) 1000)

theorem witness_TheCycleMovesThroughItsPhases :
    ((timersOn .ready).imn.spacingT.isSome = true ∧ (timersOn .ready).csc.session.isLive = false)
    ∧ ((timersOn .hold).csc.session.isLive = true ∧ (timersOn .hold).imn.st = .idle)
    ∧ (cycleAt .settleB .normal).imn.st ≠ .idle
    ∧ ((cycleAt .settleA .normal).imn.settleReady = true ∧ (cycleAt .settleA .normal).imn.st = .settleA)
    ∧ (cycleAt .settleB .normal).imn.st = .settleB
    ∧ (State.reset.modImn fun m => { m with disabledT := some 60000 }).imn.disabledT.isSome = true
    ∧ (State.reset.imn.count ≠ 256
    ∧ ((cycleAt .averageA .normal).imn.count = 256 ∧ (cycleAt .averageA .normal).imn.st = .averageA)
    ∧ ((allocationCase .transfer).modBhc fun b =>
          { b with st := .quiet, waits := ⟨false, false, false, false, false⟩ }).bhc.waits.any = false) := by decide

/-- A cycle that is averaged, with `n` restarts behind it, while both quiet flags are open, the converter charges and the heater is
in QUIET. -/
def averaging (st : CycleState) (kind : CycleKind) (n : Nat) : State :=
  ((((inSession .transfer).modImn fun m => { m with st := st, kind := kind, restarts := n, count := 255 }).modAlc fun a =>
    { a with quiet := true, setpoint := 1 }).modBhc fun b =>
      { b with quiet := true, st := .quiet, duty := 1, staleT := some 5000 }).modMtr fun m => { m with slot := 4000 }

theorem witness_NoticesRestartThePhase :
    State.reset.imn.st.isAveraging = false
    ∧ ((averaging .averageA .normal 2).imn.st.isAveraging = true ∧ (averaging .averageA .normal 2).imn.restarts < 3
        ∧ (averaging .averageA .normal 2).alc.quiet = true ∧ (averaging .averageA .normal 2).alc.setpoint ≠ 0
        ∧ (averaging .averageA .normal 2).pins.fault = false ∧ (averaging .averageA .normal 2).csc.session.isLive = true
        ∧ (averaging .averageA .normal 2).bhc.quiet = true ∧ (averaging .averageA .normal 2).bhc.st = .quiet
        ∧ (averaging .averageA .normal 2).bhc.duty ≠ 0 ∧ (averaging .averageA .normal 2).bhc.staleT.isSome = true)
    ∧ ((averaging .averageB .branch 3).imn.st.isAveraging = true ∧ (averaging .averageB .branch 3).imn.restarts = 3
        ∧ (averaging .averageB .branch 3).imn.kind = .branch)
    ∧ ((averaging .averageB .unlock 3).modBhc fun b =>
        { b with waits := ⟨false, false, false, false, true⟩ }).bhc.waits.unlockTest = true
    ∧ (((averaging .averageB .normal 3).modImn fun m => { m with checkPending := true }).imn.checkPending = true)
    ∧ (let s := (averaging .averageA .normal 0).modBle fun b => { b with linkUp := true, gapRun := 31 }
       1 < s.mtr.slot ∧ s.mtr.slot ≤ 4000 ∧ s.ble.linkUp = true ∧ s.ble.store = [] ∧ s.ble.prevKind ≠ .fresh ∧ s.ble.gapRun = 31)
    ∧ CountsInRange (averaging .averageB .branch 3).imn :=
  ⟨by decide, by decide, by decide, by decide, by decide, by decide, by decide, by decide, by rintro _ ⟨⟩⟩

/-- The state at the close of a period of 4,000 counting slots whose mean bus voltage is `mean`, the monitor in a state. -/
def busAt (mean : Int) (st : CycleState) (kind : CycleKind) : State :=
  ((cycleAt st kind).modMtr fun m => { m with slot := 4001, sums := { Sums.zero with n := 4000, vbus := mean * 4000 } }).modPins
    fun p => { p with plug := true }

theorem witness_LowBusDisablesTheMonitor :
    ((busAt 2499 .averageB .unlock).mtr.slot = 4001 ∧ (busAt 2499 .averageB .unlock).mtr.counts.substituted = false
        ∧ 0 < (busAt 2499 .averageB .unlock).mtr.sums.n
        ∧ Int.fdiv (busAt 2499 .averageB .unlock).mtr.sums.vbus (busAt 2499 .averageB .unlock).mtr.sums.n = 2499
        ∧ (busAt 2499 .averageB .unlock).imn.st.isCycle = true ∧ (busAt 2499 .averageB .unlock).imn.restarts < 3
        ∧ (busAt 2499 .averageB .unlock).imn.kind = .unlock)
    ∧ (busAt 2499 .isolating .normal).imn.st = .isolating ∧ (busAt 2499 .disabled .normal).imn.st = .disabled
    ∧ (Int.fdiv (busAt 2500 .disabled .normal).mtr.sums.vbus (busAt 2500 .disabled .normal).mtr.sums.n = 2500
        ∧ (busAt 2500 .disabled .normal).asm.subst ≠ .ending ∧ (busAt 2500 .idle .normal).imn.st ≠ .disabled)
    ∧ (CheckStands (busAt 2500 .disabled .normal)
        ∧ (let s := (busAt 2500 .disabled .normal).modImn fun m => { m with retestPending := true }
           s.imn.retestPending = true ∧ CheckStands s))
    ∧ ((busAt 2500 .idle .normal).modMtr fun m => { m with counts := { m.counts with substituted := true } }).mtr.counts.substituted
        = true
    ∧ (busAt 0 .averageA .branch).pins.plug = true := by
  unfold CheckStands
  decide

theorem witness_ResistancesFollowTheirSteps :
    ((0 : Int) + 0 ≤ 0) ∧ ((0 : Int) < 1 + 99 ∧ (0 : Int) < 100 + 0 ∧ (100 * 0 : Int) < 0 + 99)
    ∧ ((1 : Int) + 99 ≤ 100 * 1 ∧ (100 * 0 : Int) < 100 + 0)
    ∧ ((1 : Int) + 99 ≤ 100 * 1 ∧ (1 : Int) + 99 ≤ 100 * 1 ∧ (1 * 99 - 99 * 1 : Int) ≤ 0)
    ∧ ((6667 : Int) + 13333 ≤ 100 * 6667 ∧ (0 : Int) < 17333 * 13333 - 2667 * 6667)
    ∧ ((cycleAt .averageB .normal).imn.st = .averageB ∧ (cycleAt .averageB .normal).imn.count = 256
        ∧ (cycleAt .averageB .normal).imn.avgA = some ⟨6667, 13333⟩)
    ∧ (resistances 500 ⟨0, 0⟩ ⟨17333, 2667, 20000⟩ = none ∧ CountsInRange (Imn.reset 500)) := by
  refine ⟨by decide, by decide, by decide, by decide, by decide, by decide, by decide, by decide, by decide, ?_⟩
  rintro _ ⟨⟩

/-- A second isolated reading below the fault limit under FAULT with cause HEATER, in session state `x`. -/
def heaterToBus (x : Session) : State :=
  (((cycleEnd .normal 100 500 400).modImn fun m =>
    { m with isolatedA := true, isolatedB := true, faultCount := 1, verdict := .fault, cause := .heater }).modCsc fun c =>
      { c with session := x }).modBhc fun b => { b with st := .lockedOut, lockCause := .heater }

theorem witness_CompletedCycleJudgesTheBus :
    ((cycleEnd .normal 500 500 100).imn.st = .averageB ∧ (cycleEnd .normal 500 500 100).imn.kind = .normal
      ∧ (cycleEnd .normal 500 500 100).imn.retest = none ∧ (cycleEnd .normal 500 500 100).imn.latch = false)
    ∧ marks (cycleEnd .normal 500 500 100) = some (799, 200, 40) ∧ marks (cycleEnd .normal 100 397 100) = some (159, 159, 40)
    ∧ marks (cycleEnd .normal 100 400 397) = some (159, 160, 159) ∧ marks (cycleEnd .normal 100 500 400) = some (159, 200, 160)
    ∧ ((cycleEnd .normal 100 500 400).imn.isolatedA = false ∧ (cycleEnd .normal 100 500 400).imn.faultCount = 0)
    ∧ (((cycleEnd .normal 100 500 400).modImn fun m =>
          { m with isolatedA := true, isolatedB := true, faultCount := 1, verdict := .fault, cause := .heater }).imn.faultCount = 1)
    ∧ (let s := ((cycleEnd .normal 100 500 400).modImn fun m =>
          { m with isolatedA := true, isolatedB := true, faultCount := 1, checkPending := true }).modCsc fun c =>
            { c with session := .checking }
       s.imn.verdict ≠ .fault ∧ s.csc.session = .checking ∧ s.csc.stopReason = none ∧ s.imn.servesCheck = false)
    ∧ ((cycleEnd .normal 100 500 400).modCsc fun c => { c with session := .hold }).csc.session.isLive = true
    ∧ ((heaterToBus .hold).csc.session.isLive = true ∧ (heaterToBus .hold).imn.faultCount = 1 ∧ (heaterToBus .hold).imn.latch = false
      ∧ marks (heaterToBus .hold) = some (159, 200, 160) ∧ (heaterToBus .hold).csc.stopReason = none
      ∧ (heaterToBus .hold).bhc.st = .lockedOut ∧ (heaterToBus .stopping).csc.session = .stopping
      ∧ (heaterToBus .checking).csc.session = .checking) := by decide

theorem witness_BranchAndUnlockCyclesAreJudged :
    (marks (cycleEnd .branch 500 500 100) = some (799, 200, 40) ∧ (cycleEnd .branch 500 500 100).imn.retest = none
      ∧ (cycleEnd .branch 500 500 100).imn.latch = false ∧ (cycleEnd .branch 500 500 100).imn.faultCount < 2
      ∧ (((cycleEnd .branch 500 500 100).modImn fun m => { m with trigger := some ⟨39, 40⟩ }).imn.trigger = some ⟨39, 40⟩)
      ∧ (39 : Int) < 40)
    ∧ marks (cycleEnd .branch 100 397 100) = some (159, 159, 40) ∧ marks (cycleEnd .branch 100 400 397) = some (159, 160, 159)
    ∧ marks (cycleEnd .branch 100 500 400) = some (159, 200, 160)
    ∧ ((cycleEnd .unlock 500 500 100).imn.kind = .unlock ∧ marks (cycleEnd .unlock 500 500 100) = some (799, 200, 40)
      ∧ marks (cycleEnd .unlock 100 400 100) = some (159, 160, 40))
    ∧ ((cycleEnd .unlock 500 500 100).modBhc fun b =>
        { b with st := .wait, waits := ⟨false, false, false, false, true⟩ }).bhc.waits.unlockTest = true := by decide

/-- A session in CHECKING whose cycle ends GOOD, with the no-record policy given and every bank in state `x`. -/
def checkingEnds (x : BankState) (proceed : Bool) : State :=
  (((cycleEnd .normal 500 500 100).modCsc fun c => { c with session := .checking, checkingT := some 30000 }).modImn fun m =>
    { m with checkPending := true, servesCheck := true }).modBrs fun r =>
      { r with counter := 65534, banks := .fill ⟨x, 2⟩, proceed := proceed }

/-- The same with bank 0 FREE, the counter at its end, and the numbers from 1 on held by the seven CLOSED banks. -/
def numbersHeld : State :=
  (checkingEnds .closed false).modBrs fun r =>
    { r with counter := 65535, banks := r.banks.set 0 ⟨.free, 2⟩
             mem := [(1024, 1), (2048, 2), (3072, 3), (4096, 4), (5120, 5), (6144, 6), (7168, 7)] }

/-- R157: the next number skips those held by CLOSED banks, and 65,535 is followed by 1. -/
theorem test_session_number_skips_and_wraps :
    runs (.averagingEnd .listed) numbersHeld (fun t =>
      t.csc.session = .starting ∧ t.brs.counter = 8 ∧ recordWordAt t 0 0 0 = 8) = true := by decide +kernel

/-- A session in CHECKING whose isolated cycle ends with a WARNING, over the thresholds given. -/
def checkingWarns (warn fault : Nat) : State :=
  (checkingEnds .free false).modImn fun m =>
    { m with bridge := 100, warnThreshold := warn, faultThreshold := fault, isolatedA := true, isolatedB := true }

theorem witness_CountingCycleStartsTheSession :
    ((checkingEnds .free false).imn.st = .averageB ∧ (checkingEnds .free false).imn.count = 256
      ∧ (checkingEnds .free false).imn.kind = .normal ∧ (checkingEnds .free false).imn.retest = none
      ∧ marks (checkingEnds .free false) = some (799, 200, 40) ∧ (200 : Int) ≤ 799
      ∧ (checkingEnds .free false).imn.latch = false ∧ (checkingEnds .free false).imn.verdict ≠ .fault
      ∧ (checkingEnds .free false).imn.checkPending = true ∧ (checkingEnds .free false).imn.servesCheck = true
      ∧ (checkingEnds .free false).csc.session = .checking ∧ (checkingEnds .free false).csc.stopReason = none
      ∧ (checkingEnds .free false).pins.ready = false ∧ (checkingEnds .free false).csc.linkAge ≠ some 60000
      ∧ openBank (checkingEnds .free false) = none)
    ∧ ((checkingEnds .free false).pins.fault = false
      ∧ firstBank (fun st => st == .free) (checkingEnds .free false).brs.banks = some 0
      ∧ memWf (checkingEnds .free false).brs.mem = true ∧ (checkingEnds .free false).brs.counter ≤ 65535)
    ∧ (firstBank (fun st => st == .free) numbersHeld.brs.banks = some 0 ∧ memWf numbersHeld.brs.mem = true
      ∧ numbersHeld.brs.counter ≤ 65535 ∧ openBank numbersHeld = none)
    ∧ (marks (checkingWarns 400 397) = some (159, 160, 159) ∧ marks (checkingWarns 500 400) = some (159, 200, 160)
      ∧ (checkingWarns 500 400).imn.isolatedA = true ∧ (checkingWarns 500 400).imn.isolatedB = true
      ∧ (checkingWarns 500 400).imn.faultCount = 0 ∧ (checkingWarns 500 400).imn.checkPending = true)
    ∧ ((checkingEnds .free false).modPins fun p => { p with ready := true }).pins.ready = true
    ∧ ((checkingEnds .free false).modCsc fun c => { c with linkAge := some 60000 }).csc.linkAge = some 60000
    ∧ ((∀ b, ((checkingEnds .closed false).brs.banks.get b).st ≠ .free) ∧ (checkingEnds .closed false).brs.proceed = false)
    ∧ ((∀ b, ((checkingEnds .settling true).brs.banks.get b).st ≠ .free) ∧ (checkingEnds .settling true).brs.proceed = true)
    ∧ ((checkingEnds .free false).modPins fun p => { p with fault := true }).pins.fault = true := by decide

/-- A retest with its counts, a served cycle of a kind at its end with the minimum 159 kΩ, and the FAULT latch set. -/
def retesting (good cycles : Nat) (kind : CycleKind) (warn fault : Nat) : State :=
  (cycleEnd kind 100 warn fault).modImn fun m =>
    { m with retest := some ⟨good, cycles⟩, servesRetest := true, retestPending := true, latch := true, verdict := .fault,
             cause := .bus, faultCount := 2 }

theorem witness_RetestRunsToItsEnd :
    (State.reset.vp.takesWrites ∧ State.reset.imn.st = .idle)
    ∧ ((cycleAt .settleA .normal).imn.st ≠ .idle ∧ (cycleAt .settleA .normal).imn.latch = false)
    ∧ ((cycleAt .settleA .normal).modImn fun m => { m with latch := true, faultCount := 2 }).imn.latch = true
    ∧ ((retesting 1 9 .normal 397 316).imn.st = .averageB ∧ (retesting 1 9 .normal 397 316).imn.count = 256
        ∧ (retesting 1 9 .normal 397 316).imn.kind ≠ .branch ∧ (retesting 1 9 .normal 397 316).imn.retest = some ⟨1, 9⟩
        ∧ (retesting 1 9 .normal 397 316).imn.servesRetest = true ∧ (retesting 1 9 .normal 397 316).imn.retestPending = true
        ∧ (retesting 1 9 .normal 397 316).imn.latch = true ∧ (retesting 1 9 .normal 397 316).imn.verdict = .fault
        ∧ (retesting 1 9 .normal 397 316).imn.cause = .bus
        ∧ marks (retesting 1 9 .normal 397 316) = some (159, 159, 127) ∧ Int.fdiv (5 * 127) 4 = 158)
    ∧ (marks (retesting 0 9 .unlock 400 320) = some (159, 160, 128) ∧ Int.fdiv (5 * 128) 4 = 160 ∧ 10 ≤ 9 + 1)
    ∧ ((retesting 0 8 .unlock 400 320).imn.retest = some ⟨0, 8⟩ ∧ 8 + 1 < 10)
    ∧ ((retesting 0 0 .unlock 400 320).modBhc fun b => { b with waits := ⟨false, false, false, false, true⟩ }).bhc.waits.unlockTest
        = true
    ∧ (resistances 500 ⟨0, 0⟩ ⟨17333, 2667, 20000⟩ = none ∧ (1 : Nat) < 2) := by decide

/-- The heater in state `x` with a lockout cause and a demand. -/
def heaterAt (x : HeaterState) (cause : LockCause) : State :=
  State.reset.modBhc fun b => { b with st := x, lockCause := cause, demand := 1000, staleT := some 5000, isolationT := some 200 }

/-- A parked run in heater state `x` while the quiet window is open and the monitor averages, with `n` restarts behind it. -/
def quietRun (x : HeaterState) (n : Nat) : State :=
  (averaging .averageA .normal n).modBhc fun b =>
    { b with st := x, mode := .parked, run := some ⟨1000, 1000, 0⟩, runT := some 100, demand := 1000, duty := 0,
             packTemp := some 30, maxPower := 6000 }

/-- `quietRun` with the plug in and a reason to wait. -/
def waitingQuietRun : State :=
  ((quietRun .quiet 2).modPins fun p => { p with plug := true }).modBhc fun b => { b with waits := ⟨false, true, false, false, false⟩ }

theorem witness_ParkedRunsStartStopAndEnd :
    State.reset.vp.takesWrites ∧ plugged.pins.plug = true ∧ (heaterAt .lockedOut .heater).bhc.st = .lockedOut
    ∧ (State.reset.pins.plug = false ∧ State.reset.bhc.st ≠ .lockedOut ∧ State.reset.bhc.quiet = false
        ∧ State.reset.bhc.st = .off)
    ∧ (heaterAt .spent .none).bhc.st = .spent ∧ (heaterAt .isolated .none).bhc.st = .isolated
    ∧ (let s := quietRun .off 2
       s.vp.takesWrites ∧ s.pins.plug = false ∧ s.bhc.st = .off ∧ s.bhc.quiet = true ∧ s.bhc.waits.unlockTest = false)
    ∧ (quietRun .spent 2).bhc.st = .spent
    ∧ (let s := quietRun .quiet 2
       s.vp.takesWrites ∧ s.pins.plug = false ∧ s.bhc.st = .quiet ∧ s.bhc.quiet = true ∧ s.bhc.demand ≠ 0
         ∧ s.pins.supplyFail = false ∧ s.bhc.waits.any = false ∧ s.imn.st.isAveraging = true ∧ s.imn.restarts < 3
         ∧ s.bhc.run.isSome = true ∧ s.bhc.waits.unlockTest = false ∧ QuietFollowsWindow s)
    ∧ ((quietRun .quiet 2).modBhc fun b => { b with demand := 0 }).bhc.demand = 0
    ∧ (waitingQuietRun.pins.plug = true ∧ waitingQuietRun.bhc.st = .quiet ∧ waitingQuietRun.bhc.quiet = true
        ∧ waitingQuietRun.bhc.run.isSome = true ∧ waitingQuietRun.imn.st = .averageA ∧ waitingQuietRun.imn.restarts < 3)
    ∧ ((quietRun .wait 3).bhc.st = .wait ∧ (quietRun .wait 3).bhc.quiet = true ∧ (quietRun .wait 3).pins.plug = false
        ∧ (quietRun .wait 3).bhc.run.isSome = true ∧ (quietRun .wait 3).bhc.waits.unlockTest = false)
    ∧ State.reset.bhc.run = none
    ∧ ((heaterAt .heating .none).modBhc fun b => { b with run := some ⟨1000, 0, 0⟩ }).bhc.run.isSome = true
    ∧ ((heaterAt .heating .none).bhc.waits.unlockTest = false ∧ (heaterAt .heating .none).bhc.st = .heating)
    ∧ (let s := (heaterAt .quiet .none).modBhc fun b => { b with run := some ⟨1000, 0, 0⟩, quiet := true }
       s.bhc.run.isSome = true ∧ s.bhc.st = .quiet ∧ s.bhc.quiet = true ∧ s.imn.st.isAveraging = false)
    ∧ (let s := ((heaterAt .isolated .none).modBhc fun b => { b with run := some ⟨1000, 0, 999⟩ }).modMtr fun m =>
         { m with slot := 4001, run := ⟨0, 1000⟩ }
       s.bhc.run = some ⟨1000, 0, 999⟩ ∧ s.mtr.slot = 4001 ∧ s.bhc.st ≠ .lockedOut ∧ s.bhc.overdraw < 2
         ∧ s.bhc.waits.unlockTest = false ∧ 1000 ≤ s.mtr.run.wh) := by
  refine ⟨by decide, by decide, by decide, by decide, by decide, by decide, by decide, by decide, ?_, by decide, by decide,
    by decide, by decide, by decide, by decide, by decide, by decide⟩
  exact ⟨by decide, by decide, by decide, by decide, by decide, by decide, by decide, by decide, by decide, by decide, by decide,
    ⟨by decide, by decide⟩⟩

theorem witness_HeaterUnlockFollowsItsTable :
    ((heaterAt .lockedOut .overdraw).bhc.st = .lockedOut ∧ (heaterAt .lockedOut .overdraw).bhc.lockCause = .overdraw
        ∧ (heaterAt .lockedOut .overdraw).vp.takesWrites)
    ∧ ((heaterAt .lockedOut .heater).bhc.lockCause = .heater ∧ (heaterAt .lockedOut .heater).bhc.quiet = false
        ∧ (heaterAt .lockedOut .heater).bhc.isolationHold = false ∧ (heaterAt .lockedOut .heater).imn.st = .idle)
    ∧ ((heaterAt .lockedOut .heater).modBhc fun b => { b with isolationHold := true }).bhc.isolationHold = true
    ∧ (heaterAt .lockedOut .heater).bhc.contactor = false
    ∧ ((heaterAt .wait .heater).modBhc fun b => { b with waits := ⟨false, false, false, false, true⟩ }).bhc.waits.unlockTest = true
    ∧ ((heaterAt .spent .none).bhc.st ≠ .lockedOut ∧ (heaterAt .spent .none).bhc.st ≠ .wait) := by decide

theorem witness_HeaterDemandFollowsItsInputs :
    State.reset.vp.takesWrites ∧ State.reset.bhc.quiet = false
    ∧ ((heaterAt .heating .none).bhc.waits.unlockTest = false ∧ (heaterAt .heating .none).bhc.st = .heating) := by decide

/-- The heater heating in a parked run whose cap is the demand. -/
def parkedRun : State :=
  (heaterAt .heating .none).modBhc fun b =>
    { b with mode := .parked, run := some ⟨1000, 1000, 0⟩, runT := some 100, packTemp := some 30, maxPower := 6000, vbus := 2500 }

theorem witness_HeaterTimersAct :
    ((heaterAt .heating .none).bhc.staleT.isSome = true ∧ (heaterAt .heating .none).bhc.quiet = false)
    ∧ (parkedRun.bhc.st = .heating ∧ parkedRun.bhc.mode ≠ .none ∧ parkedRun.bhc.demand ≠ 0 ∧ parkedRun.pins.supplyFail = false)
    ∧ (parkedRun.bhc.run = some ⟨1000, 1000, 0⟩ ∧ parkedRun.bhc.runT.isSome = true ∧ 0 < min (demandOf parkedRun.bhc) 1000
        ∧ parkedRun.bhc.waits.onlyGrantZero = true)
    ∧ min (demandOf parkedRun.bhc) 0 = 0
    ∧ ((heaterAt .isolated .none).bhc.isolationT.isSome = true ∧ (heaterAt .isolated .none).imn.st ≠ .isolating)
    ∧ ((heaterAt .heating .none).bhc.isolationT.isSome = true ∧ (heaterAt .lockedOut .heater).bhc.isolationT.isSome = true)
    ∧ ((cycleAt .isolating .normal).imn.st = .isolating)
    ∧ (let s := quietRun .quiet 2
       s.bhc.staleT.isSome = true ∧ s.bhc.quiet = true ∧ s.bhc.st = .quiet ∧ s.bhc.mode ≠ .none ∧ s.bhc.demand ≠ 0
         ∧ s.pins.supplyFail = false ∧ s.bhc.waits.any = false ∧ s.imn.st.isAveraging = true ∧ s.imn.restarts < 3
         ∧ s.bhc.run = some ⟨1000, 1000, 0⟩ ∧ s.bhc.runT.isSome = true ∧ 0 < min (demandOf s.bhc) 1000)
    ∧ (let s := (quietRun .quiet 2).modBhc fun b => { b with run := some ⟨1000, 0, 0⟩ }
       s.bhc.run = some ⟨1000, 0, 0⟩ ∧ 0 < demandOf s.bhc) := by decide

/-- An open session before a slot that uses a set whose heater current is `amps`, over a limit of 500. -/
def heaterDraws (amps : Word) (valid : Byte) : State :=
  ((pluggedIn .transfer).modMtr fun m => { m with slot := 2 }).modBle fun b =>
    { b with linkUp := true, store := [⟨(Oct.fill 0).set 5 amps, valid⟩] }

/-- The raw value of the heater current of the first waiting set, corrected, as the statement computes it. -/
def heaterAmps (s : State) : Option Int :=
  s.ble.store.head?.map fun x => max (-32767) (min 32767
    (Int.fdiv (((x.raw.get 5).toInt - s.asm.offset.get 5) * s.asm.gain.get 5 + 16384) 32768))

/-- A period close with heater power `watts` over a peak duty grant of 1,000 W and an overdraw count. -/
def overdrawn (watts : Int) (count : Nat) : State :=
  (State.reset.modMtr fun m =>
    { m with slot := 4001, sums := { Sums.zero with n := 4000, htr := watts * 100000000, ihtr := 20 * 4000 } }).modBhc fun b =>
      { b with peakGrant := 1000, overdraw := count }

theorem witness_LockoutsFollowTheirTests :
    (1 < (heaterDraws 12501 0xFF).mtr.slot ∧ (heaterDraws 12501 0xFF).mtr.slot ≤ 4000
        ∧ (heaterDraws 12501 0xFF).asm.substituting = false ∧ (heaterDraws 12501 0xFF).ble.linkUp = true
        ∧ (heaterDraws 12501 0xFF).ble.store = [⟨(Oct.fill 0).set 5 12501, 0xFF⟩] ∧ (0xFF : Byte).getLsbD 5 = true
        ∧ heaterAmps (heaterDraws 12501 0xFF) = some 12501 ∧ (heaterDraws 12501 0xFF).bhc.currentLimit = 12500
        ∧ (heaterDraws 12501 0xFF).bhc.lockCause = .none ∧ memWf (heaterDraws 12501 0xFF).brs.mem = true
        ∧ openBank (heaterDraws 12501 0xFF) = some 3 ∧ ((heaterDraws 12501 0xFF).brs.banks.get 3).next < 64)
    ∧ heaterAmps (heaterDraws 12500 0xFF) = some 12500 ∧ (0xDF : Byte).getLsbD 5 = false
    ∧ ((overdrawn 1401 2).mtr.slot = 4001 ∧ (overdrawn 1401 2).bhc.quiet = false ∧ (overdrawn 1401 2).bhc.st ≠ .quiet
        ∧ (overdrawn 1401 2).mtr.counts.substituted = false ∧ 0 < (overdrawn 1401 2).mtr.sums.n
        ∧ ¬ ((overdrawn 1401 2).mtr.sums.n = 0
          ∨ (overdrawn 1401 2).mtr.sums.ihtr / (overdrawn 1401 2).mtr.sums.n < (overdrawn 1401 2).mtr.latches.creep)
        ∧ ((1000 * 6 / 5 + 200 : Nat) : Int) < Int.fdiv (overdrawn 1401 2).mtr.sums.htr 100000000
        ∧ 2 ≤ (overdrawn 1401 2).bhc.overdraw ∧ (overdrawn 1401 2).bhc.waits.unlockTest = false)
    ∧ (overdrawn 1401 1).bhc.overdraw < 2 ∧ ¬ ((1000 * 6 / 5 + 200 : Nat) : Int) < Int.fdiv (overdrawn 1400 1).mtr.sums.htr 100000000
    ∧ ((overdrawn 1401 1).modMtr fun m => { m with counts := { m.counts with substituted := true } }).mtr.counts.substituted = true := by
  decide

/-! ### Witnesses: barrier, slots, metering, tariff and records -/

theorem witness_SetsCrossTheBarrier :
    (⟨3, .fill 0, 0xFF, crc8 3 (.fill 0) 0xFF⟩ : BarrierFrame).check = crc8 3 (.fill 0) 0xFF
    ∧ (⟨3, .fill 0, 0xFF, crc8 3 (.fill 0) 0xFF ^^^ 1⟩ : BarrierFrame).check ≠ crc8 3 (.fill 0) 0xFF
    ∧ (List.replicate 3 (⟨.fill 0, 0xFF⟩ : SampleSet)).length < 4
    ∧ 4 ≤ (List.replicate 4 (⟨.fill 0, 0xFF⟩ : SampleSet)).length := by decide +kernel

theorem witness_FirstSlotStartsThePeriod :
    (tableOk [⟨0, 1⟩, ⟨86340, 2⟩] = true ∧ tableOk [] = true)
    ∧ ((∀ e' ∈ ([⟨0, 1⟩, ⟨86340, 2⟩] : List TariffEntry), e'.start ≤ 86340 → e'.start ≤ 86340)
        ∧ (∀ e' ∈ ([⟨60, 1⟩, ⟨86340, 2⟩] : List TariffEntry), 59 < e'.start))
    ∧ (State.reset.mtr.slot = 1 ∧ (∀ b, 2 ≤ (State.reset.brs.banks.get b).next))
    ∧ (inSession .ready).csc.session.keepsHolds = true
    ∧ (State.reset.modTtc fun t => { t with commitMark := true }).ttc.commitMark = true
    ∧ (let s := State.reset.modAsm fun a => { a with subst := .armed, substConfig := a.substConfig.set 7 ⟨.prbs, 0, 0⟩ }
       s.mtr.slot = 1 ∧ s.asm.subst = .armed) := by decide

/-- R120: from seed 1 the register of slots 18 and 19 is 131,072 and 262,145, and a RAMP goes from 32,767 to −32,768. -/
theorem test_generators :
    ((Generator.advance ⟨0, 131072, false⟩ .prbs).register, (Generator.advance ⟨32767, 0, false⟩ .ramp).value,
      (SubstRecord.load ⟨.prbs, 0, 128⟩).register) = (262145, 0x8000, 1) := by decide

/-- The state before slot 2 with a fresh set whose two AC sensors read `x` and 1,000, DISAGREE as given, and both runs given. -/
def sensed (x : Word) (valid : Byte) (disagree : Bool) (runA runB : Nat) : State :=
  (((inSession .ready).modMtr fun m => { m with slot := 2 }).modBle fun b =>
    { b with store := [⟨((Oct.fill 0).set 1 x).set 2 1000, valid⟩] }).modAsm fun a =>
      { a with disagree := disagree, disagreeRun := runA, agreeRun := runB }

/-- R117: the 64th slot in a row with the sensors 251 counts apart sets DISAGREE and raises its event. -/
theorem test_disagree_sets :
    runs (.metrologySlot .listed true) (sensed 1251 0xFF false 63 0) (fun t =>
      t.asm.disagree = true ∧ t.vp.events.getLsbD 9 = true ∧ t.mtr.counts.disagree = true) = true := by decide +kernel

/-- R119 and R120: in a gap slot a substituted slot still has its values; section 7.5.1 gives the product. -/
theorem test_substituted_gap_slot :
    runs (.metrologySlot .listed true)
      ((State.reset.modMtr fun m => { m with slot := 2 }).modAsm fun a =>
        { a with subst := .running, substituting := true, substConfig := .fill ⟨.constant, 8000, 0⟩,
                 generators := (Oct.fill ⟨8000, 0, false⟩).set 0 ⟨11500, 0, false⟩ })
      (fun t => t.mtr.sums.ac = 92000000 ∧ t.mtr.counts.gaps = 1 ∧ t.mtr.counts.substituted = true) = true := by decide +kernel

/-- The state after reset before slot `slot`, with a full set waiting when `fresh`, and the link up or down. -/
def beforeSlot (slot : Nat) (fresh up : Bool) : State :=
  ((inSession .ready).modMtr fun m => { m with slot := slot }).modBle fun b =>
    { b with store := if fresh then [⟨.fill 0, 0xFF⟩] else [], linkUp := up, gapRun := 31 }

theorem witness_SlotAddsToThePeriodSumsAndMovesTheLink :
    (1 < (beforeSlot 2 false true).mtr.slot ∧ (beforeSlot 2 false true).asm.substituting = false
        ∧ (beforeSlot 2 false true).ble.linkUp = true ∧ (beforeSlot 2 false true).ble.prevKind ≠ .fresh
        ∧ (beforeSlot 2 false true).ble.gapRun = 31 ∧ (beforeSlot 2 false true).csc.session.keepsHolds = true)
    ∧ ((beforeSlot 4000 true false).mtr.slot ≤ 4000 ∧ (beforeSlot 4000 true false).ble.linkUp = false
        ∧ (beforeSlot 4000 true false).ble.store = [⟨.fill 0, 0xFF⟩] ∧ (beforeSlot 4000 true false).asm.block = .none)
    ∧ (beforeSlot 4000 true true).ble.linkUp = true
    ∧ (let s := sensed 1250 0xFF true 64 3999
       1 < s.mtr.slot ∧ s.asm.block = .none ∧ s.asm.valueOfSlot s.ble.setOfSlot 1 = some 1250
         ∧ s.asm.valueOfSlot s.ble.setOfSlot 2 = some 1000 ∧ ¬ 250 < ((1250 : Int) - 1000).natAbs ∧ s.asm.disagree = true)
    ∧ ((sensed 1251 0xFF false 63 0).asm.valueOfSlot (sensed 1251 0xFF false 63 0).ble.setOfSlot 1 = some 1251
        ∧ 250 < ((1251 : Int) - 1000).natAbs ∧ (sensed 1251 0xFF false 63 0).asm.disagree = false)
    ∧ ((sensed 1251 0xFD false 63 0).asm.valueOfSlot (sensed 1251 0xFD false 63 0).ble.setOfSlot 1 = none
        ∧ (sensed 1251 0xFD false 63 0).asm.iacOfSlot (sensed 1251 0xFD false 63 0).ble.setOfSlot = (some 1000, true))
    ∧ ((sensed 1251 0xFD false 63 0).modAsm fun a => { a with block := .sensorB }).asm.iacOfSlot
        (sensed 1251 0xFD false 63 0).ble.setOfSlot = (none, false) := by decide +kernel

/-- The close of a period of 4,000 counting slots with energies of `x` eu and a session latch, substituted when `subst`. -/
def energyClose (x : Int) (n : Option Nat) (subst : Bool) : State :=
  State.reset.modMtr fun m =>
    { m with
      slot := 4001
      sums := { Sums.zero with ac := x, obc := x, htr := x, iac := 80000, iobc := 80000, ihtr := 80000, n := 4000 }
      counts := { Counts.zero with substituted := subst }
      latches := { m.latches with session := n, run := true } }

theorem witness_PeriodCloseIssuesItsResult :
    State.reset.mtr.slot ≠ 4001 ∧ (State.reset.modMtr fun m => { m with slot := 4001 }).mtr.slot = 4001
    ∧ (energyClose 360000000000 (some 77) false).mtr.route = .session 77
    ∧ (energyClose 360000000000 none true).mtr.route = .verification
    ∧ (energyClose 1 none false).mtr.route = .unrecorded ∧ (energyClose 0 none false).mtr.route = .none
    ∧ (let s := (energyClose 360000000000 none false).modBhc fun b => { b with run := some ⟨1000, 500, 0⟩ }
       s.mtr.slot = 4001 ∧ s.mtr.counts.substituted = false ∧ s.mtr.latches.run = true ∧ s.bhc.run ≠ none) := by decide

theorem witness_HeatingAndTractionSharesAddUp :
    (State.reset.modMtr fun m => { m with slot := 4001 }).mtr.slot = 4001 := by decide

theorem witness_SettingsAreStoredAsClamped :
    (State.reset.fp.takesWrites ∧ State.reset.vp.takesWrites ∧ openBank State.reset = none ∧ State.reset.asm.subst = .off)
    ∧ openBank (pluggedIn .transfer) ≠ none
    ∧ (State.reset.modAsm fun a => { a with subst := .ending }).asm.subst ≠ .off
    ∧ (State.reset.asm.block.code = min 2 (0 : Word).toNat ∧ State.reset.asm.block.code ≠ min 2 (3 : Word).toNat)
    ∧ (State.reset.alc.rating = max 60 (min 400 (320 : Word).toNat) ∧ State.reset.alc.rating ≠ max 60 (min 400 (401 : Word).toNat)
        ∧ State.reset.slc.table.request.frame = none) := by decide

/-- The state after reset with one channel configured and the substitution in a state. -/
def substAt (x : SubstState) : State :=
  State.reset.modAsm fun a => { a with subst := x, substConfig := a.substConfig.set 7 ⟨.constant, 1, 0⟩ }

theorem witness_SubstitutionStartsAndStops :
    ((substAt .off).fp.takesWrites ∧ (substAt .off).asm.subst = .off
        ∧ (∃ c, ((substAt .off).asm.substConfig.get c).pattern ≠ .none) ∧ (substAt .off).csc.session = .unplugged
        ∧ openBank (substAt .off) = none ∧ (substAt .off).bhc.st = .off ∧ (substAt .off).bhc.quiet = false)
    ∧ ¬ (∃ c, (State.reset.asm.substConfig.get c).pattern ≠ .none)
    ∧ (substAt .armed).asm.subst = .armed ∧ (substAt .running).asm.subst = .running ∧ (substAt .ending).asm.subst = .ending
    ∧ (let s := ((substAt .ending).modMtr fun m => { m with slot := 4001 }).modCsc fun c => { c with session := .ready }
       s.mtr.slot = 4001 ∧ s.asm.subst = .ending ∧ s.csc.session = .ready) := by
  decide

theorem witness_TariffEditsFollowTheirRules :
    State.reset.fp.takesWrites ∧ State.reset.ttc.commitMark = false
    ∧ (State.reset.modTtc fun t => { t with commitMark := true }).ttc.commitMark = true
    ∧ State.reset.ttc.pendingTable.length < 8
    ∧ (let table : List TariffEntry := (List.range 8).map fun i => ⟨60 * (i + 1), 0⟩
       8 ≤ table.length ∧ (table.any fun e => e.start == 0) = false ∧ (table.any fun e => e.start == 60) = true
         ∧ tableOk table = true)
    ∧ openBank State.reset = none := by decide

/-- The state after reset with RETIRE_BANK 7 and bank 7 in a state, its summary holding session 318. -/
def retiring (x : BankState) : State :=
  State.reset.modBrs fun r => { r with retireBank := 7, banks := r.banks.set 7 ⟨x, 3⟩, mem := [(7168, 318)] }

theorem witness_RetireFreesOnlyTheNamedSession :
    ((retiring .closed).fp.takesWrites ∧ (retiring .closed).vp.takesWrites
        ∧ ((retiring .closed).brs.banks.get (retiring .closed).brs.retireBank).st = .closed
        ∧ recordWordAt (retiring .closed) 7 0 0 = 318 ∧ recordWordAt (retiring .closed) 7 0 0 ≠ 317)
    ∧ ((retiring .settling).brs.banks.get 7).st = .settling ∧ ((retiring .openBank).brs.banks.get 7).st = .openBank := by decide

/-- A period close with bank 3 in state `x` holding session 77 and its next slot given, over an open interval of `periods`; the period
began at `second` and belongs to session `n`. -/
def recording (x : BankState) (next periods second : Nat) (n : Option Nat) (unset : Bool) : State :=
  (State.reset.modMtr fun m =>
    { m with slot := 4001, latches := { m.latches with session := n, second := second, timeUnset := unset },
             sess := SessionSet.clear (some 77) }).modBrs fun r =>
      { r with banks := r.banks.set 3 ⟨x, next⟩, mem := [(3072, 77)], workBank := some 3,
               interval := { Interval.empty with periods := periods } }

theorem witness_IntervalsSettlementsAndTimeStepsAreRecorded :
    (let s := recording .openBank 63 1 900 (some 77) false
     memWf s.brs.mem = true ∧ 2 ≤ (s.brs.banks.get 3).next ∧ s.mtr.slot = 4001 ∧ openBank s = some 3 ∧ settlingBank s = none
       ∧ s.mtr.counts.substituted = false ∧ s.mtr.latches.session = some (bankSession s 3) ∧ s.csc.session ≠ .stopping
       ∧ s.bhc.overdraw < 2 ∧ s.bhc.waits.unlockTest = false ∧ s.brs.workBank = some 3 ∧ 0 < s.brs.interval.periods
       ∧ s.mtr.latches.timeUnset = false ∧ s.mtr.latches.second % 900 = 0 ∧ (s.brs.banks.get 3).next < 64
       ∧ s.mtr.sess.owner = some 77)
    ∧ (let s := recording .openBank 64 900 901 (some 77) true
       s.mtr.latches.timeUnset = true ∧ 900 ≤ s.brs.interval.periods ∧ 64 ≤ (s.brs.banks.get 3).next)
    ∧ (recording .openBank 2 0 900 (some 77) false).brs.interval.periods = 0
    ∧ (let s := recording .settling 62 1 900 (some 77) false
       s.mtr.slot = 4001 ∧ openBank s = none ∧ settlingBank s = some 3 ∧ s.mtr.latches.session = some (bankSession s 3)
         ∧ (∀ b', b' ≠ 3 → (s.brs.banks.get b').st ≠ .settling) ∧ (s.brs.banks.get 3).next < 63 ∧ s.brs.work.reason ≤ 12)
    ∧ (let s := recording .settling 2 0 899 none false
       s.mtr.latches.session ≠ some (bankSession s 3) ∧ s.brs.interval.periods = 0)
    ∧ (0 < (recording .settling 64 1 899 none false).brs.interval.periods)
    ∧ (let s := (recording .openBank 62 1 0 none true).modTtc fun t => { t with timeLow := 3 }
       s.fp.takesWrites ∧ openBank s = some 3 ∧ 2 < min 86399 (s.ttc.timeHigh * 65536 + s.ttc.timeLow) ∧ s.ttc.second = 0
         ∧ s.ttc.timeDay = s.ttc.day ∧ (s.brs.banks.get 3).next < 63)
    ∧ ((recording .openBank 62 1 0 none true).modTtc fun t => { t with timeLow := 2 }).ttc.timeLow ≤ 2 := by decide

theorem witness_RecordsAndTotalsAreReadWhole :
    State.reset.vp.takesWrites ∧ State.reset.fp.takesWrites ∧ State.reset.vp.ignoring = false
    ∧ State.reset.fp.ignoring = false
    ∧ State.reset.brs.vpCursor.word = 0 ∧ State.reset.brs.fpCursor.word = 0
    ∧ ((⟨7, 63, 15, some (List.replicate 16 0)⟩ : Cursor).word < 16
        ∧ 0 < (⟨7, 63, 15, some (List.replicate 16 0)⟩ : Cursor).word
        ∧ (⟨7, 63, 15, some (List.replicate 16 0)⟩ : Cursor).latch = some (List.replicate 16 0))
    ∧ (let s := State.reset.modBrs fun r => { r with fpCursor := ⟨7, 63, 15, some (List.replicate 16 0)⟩ }
       s.fp.ignoring = false ∧ s.brs.fpCursor.word < 16 ∧ 0 < s.brs.fpCursor.word)
    ∧ ((1 : Word) ≠ 0 ∧ runs (.snapshot .fp 1) State.reset (fun u =>
        runs .unrecordedImportHigh { State.reset with fp := u.fp } fun t => t.fp.pendingOut == some (0xEA, 0)) = true)
    ∧ (State.reset.brs.unrecordedImport < 2 ^ 32 ∧ State.reset.fp.snapshot = none ∧ State.reset.brs.copy = none)
    ∧ ((⟨4294967295, 65535⟩ : UnrecordedCopy).imp ≤ 2 ^ 32)
    ∧ (State.reset.modFp fun p => { p with snapshot := some [] }).fp.snapshot ≠ none := by decide +kernel

theorem witness_PlainSettingsAreStoredAsClamped : State.reset.vp.takesWrites ∧ State.reset.fp.takesWrites := by decide

theorem witness_PortItemsAnswer :
    State.reset.vp.takesWrites ∧ State.reset.fp.takesWrites ∧ isCopied .vp 0x60 = true ∧ (2 : Word) ≠ 0
    ∧ (0x80 ≤ (0x80 : Byte).toNat ∧ (0xFF : Byte) ∉ ([0x82, 0x87, 0xEA, 0xED] : List Byte)) ∧ 4 < (5 : Word).toNat := by decide

theorem witness_SnapshotAndOldWindowStopWrites :
    (writtenItem (.obcAcRating 0x0100) = some (.vp, 0x2A) ∧ writtenItem (.itemWrite .vp 0x7F 0) = some (.vp, 0x7F)
      ∧ (portOf .vp (State.reset.modVp fun p => { p with snapshot := some [] })).snapshot ≠ none
      ∧ (portOf .vp (State.reset.modVp fun p => { p with snapshot := some [] })).ignoring = false)
    ∧ (portOfWord (.snapshot .fp 0) = some .fp
      ∧ (portOf .fp (State.reset.modFp fun p => { p with ignoring := true })).ignoring = true) := by decide

/-! ### Witnesses: the invariants, on a state in TRANSFER -/

/-- A session in TRANSFER that charges, with a STATUS timer expiry waiting. -/
def charging : State := { allocationCase .transfer with pending := [.allocationTimerExpiry] }

theorem witness_EveryStepKeepsTheConverterSafe : ConverterSafe charging ∧ ∃ t, step charging = .next t :=
  ⟨⟨by decide, by decide, by decide, by decide, by decide, by decide⟩, _, rfl⟩

theorem witness_EveryStepKeepsTheHeaterSafe :
    HeaterSafe charging.bhc ∧ QuietFollowsWindow charging ∧ ∃ t, step charging = .next t :=
  ⟨⟨by decide, by decide, by decide, by decide⟩, ⟨by decide, by decide⟩, _, rfl⟩

theorem witness_EveryStepKeepsTheAccumulatorsInRange : MeterInRange charging.mtr ∧ ∃ t, step charging = .next t := by
  refine ⟨?_, _, rfl⟩
  constructor <;> (try unfold NetInRange) <;> (try unfold QuadInRange) <;> (try unfold AccInRange) <;> decide

theorem witness_EveryStepKeepsTheStoredRanges :
    (memWf charging.brs.mem = true ∧ ThresholdsInRange charging.imn ∧ TablesOk charging.ttc ∧ BuffersInDepth charging)
    ∧ (1 ≤ charging.mtr.slot ∧ charging.mtr.slot ≤ 4001)
    ∧ StoreInRange charging.brs ∧ SessionInRange charging ∧ CountsInRange charging.imn ∧ ClockInRange charging
    ∧ CheckStands charging ∧ ∃ t, step charging = .next t := by
  refine ⟨⟨by decide, by unfold ThresholdsInRange; decide, ⟨by decide, by decide⟩, ⟨by decide, by decide⟩⟩, by decide, ?_, ?_, ?_, ?_,
    by unfold CheckStands; decide, _, rfl⟩
  · refine ⟨by decide, by decide, by decide, ?_, by decide, ?_⟩
    · rintro _ ⟨⟩
    · rintro _ (rfl | rfl) <;> decide
  · exact ⟨by decide, by decide, by decide⟩
  · exact ⟨by decide, by decide, by rintro _ ⟨⟩⟩
  · exact ⟨by decide, by decide, by rintro _ ⟨⟩⟩

theorem witness_ClosedBanksChangeOnlyByRetiring :
    (∀ v, Instr.supplyFailWarning ≠ .retire v ∧ Instr.supplyFailWarning ≠ .itemWrite .fp 0x69 v)
    ∧ memWf (retiring .closed).brs.mem = true ∧ ((retiring .closed).brs.banks.get 7).st = .closed
    ∧ ∃ t, exec .supplyFailWarning (retiring .closed) = .next t := by
  refine ⟨fun v => ⟨nofun, nofun⟩, by decide, by decide, _, rfl⟩

theorem witness_TariffInForceChangesOnlyAtPeriodStart :
    (∃ t, exec (.metrologySlot .listed true) State.reset = .next t) ∧ State.reset.ttc.commitMark = false
    ∧ (beforeSlot 2 true true).mtr.slot ≠ 1 := ⟨⟨_, rfl⟩, by decide, by decide⟩

theorem witness_EventFlagsStayUntilTheirPortClearsThem :
    (∃ t, exec (.events .fp) State.reset = .next t) ∧ Instr.events .fp ≠ .powerOn ∧ Instr.events .fp ≠ .restart
    ∧ Instr.events .fp ≠ .events .vp ∧ Instr.resume ≠ .events .fp := ⟨⟨_, rfl⟩, nofun, nofun, nofun, nofun⟩

end Sys2Proof.Tests
end

section
/-! SUPPORT. What the shared operations of the Charge Session Controller make of its block, of the waiting frames and of the
monitor's CHECK request: each operation once, in the order of its definition. -/
namespace Sys2Proof.Machine

/-! ### The hold set (R15) -/

theorem HoldSet.isEmpty_iff (h : HoldSet) : h.isEmpty = true ↔ h = .empty := by
  obtain ⟨a, b, c, d, e, f, g⟩ := h
  simp [HoldSet.isEmpty, HoldSet.empty, and_assoc]

theorem HoldSet.put_of_has {h : HoldSet} {r : HoldReason} {b : Bool} (hb : h.has r = b) : h.put r b = h := by
  subst hb; cases r <;> rfl

theorem HoldSet.put_true_ne_empty (h : HoldSet) (r : HoldReason) : h.put r true ≠ .empty := by
  cases r <;> simp [HoldSet.put, HoldSet.empty]

theorem HoldSet.release_vehiclePause_eq_empty_iff {h : HoldSet} (hv : h.vehiclePause = true) :
    h.put .vehiclePause false = .empty ↔ h = { HoldSet.empty with vehiclePause := true } := by
  obtain ⟨a, b, c, d, e, f, g⟩ := h
  simp_all [HoldSet.put, HoldSet.empty]

/-! ### The frame that waits in an entry (R56, R57) -/

@[simp] theorem TxTable.get_set_same (t : TxTable) (k : TxKind) (e : TxEntry) : (t.set k e).get k = e := by
  cases k <;> rfl

theorem TxTable.get_set_other (t : TxTable) {k k' : TxKind} (e : TxEntry) (h : k' ≠ k) : (t.set k e).get k' = t.get k' := by
  revert h; cases k <;> cases k' <;> simp [TxTable.get, TxTable.set]

@[simp] theorem Slc.place_onLine (l : Slc) (k k' : TxKind) (f : TxFrame) : (l.place k f).onLine k' = l.onLine k' := rfl

theorem Slc.withdraw_onLine_other (l : Slc) {k k' : TxKind} (h : k' ≠ k) : (l.withdraw k).onLine k' = l.onLine k' := by
  unfold Slc.onLine Slc.withdraw
  cases l.sending with
  | none => rfl
  | some x => by_cases hx : x.kind = k <;> simp [hx, h.symm]

@[simp] theorem waitingFrame_place_same (l : Slc) (k : TxKind) (f : TxFrame) : waitingFrame (l.place k f) k = some f := by
  simp only [waitingFrame, Slc.place_onLine]
  by_cases h : l.onLine k = true <;> simp [Slc.place, h]

/-- The waiting frame of a kind depends on its own entry alone, and on whether its frame is on the line. -/
theorem waitingFrame_congr {l l' : Slc} {k : TxKind} (hon : l'.onLine k = l.onLine k)
    (hget : l'.table.get k = l.table.get k) : waitingFrame l' k = waitingFrame l k := by
  simp only [waitingFrame, hon, hget]

theorem waitingFrame_place_other (l : Slc) {k k' : TxKind} (f : TxFrame) (h : k' ≠ k) :
    waitingFrame (l.place k f) k' = waitingFrame l k' :=
  waitingFrame_congr (l.place_onLine k k' f) (TxTable.get_set_other _ _ h)

theorem waitingFrame_withdraw_other (l : Slc) {k k' : TxKind} (h : k' ≠ k) :
    waitingFrame (l.withdraw k) k' = waitingFrame l k' :=
  waitingFrame_congr (l.withdraw_onLine_other h) (TxTable.get_set_other _ _ h)

@[simp] theorem scheduleFrame_waiting_same (k : TxKind) (payload : List Byte) (s : State) :
    waitingFrame (scheduleFrame k payload s).slc k = some (partFrame k s.slc.ownAddr payload) := by
  simp [scheduleFrame, partFrame]

theorem scheduleFrame_waiting_other {k k' : TxKind} (payload : List Byte) (s : State) (h : k' ≠ k) :
    waitingFrame (scheduleFrame k payload s).slc k' = waitingFrame s.slc k' := by
  simp [scheduleFrame, waitingFrame_place_other _ _ h]

@[simp] theorem scheduleRequest_csc (s : State) :
    (scheduleRequest s).csc = { s.csc with lastField := requestField s, requestT := some Config.requestMs } := by
  simp [scheduleRequest]

/-! ### The CHECK request stays through a disturbance (R6, R76) -/

@[simp] theorem Imn.serveIdle_checkPending (m : Imn) : m.serveIdle.checkPending = m.checkPending := by
  unfold Imn.serveIdle; split <;> rfl

@[simp] theorem Imn.enterIdle_checkPending (m : Imn) (live : Bool) : (m.enterIdle live).checkPending = m.checkPending := by
  simp [Imn.enterIdle]

@[simp] theorem Imn.enterSettle_checkPending (m : Imn) (st : CycleState) : (m.enterSettle st).checkPending = m.checkPending := rfl

@[simp] theorem Imn.countRetest_checkPending (m : Imn) (r : Retest) (good : Nat) (dry : Bool) :
    (m.countRetest r good dry).checkPending = m.checkPending := by
  unfold Imn.countRetest; (repeat' split) <;> rfl

@[simp] theorem Imn.record_checkPending (m : Imn) (res : Option (Nat × Nat)) (t : Ttc) :
    (m.record res t).checkPending = m.checkPending := rfl

@[simp] theorem requestUnlockIfDue_checkPending (s : State) : (requestUnlockIfDue s).imn.checkPending = s.imn.checkPending := by
  unfold requestUnlockIfDue; split <;> simp

@[simp] theorem closeWindow_checkPending (s : State) : (closeWindow s).imn.checkPending = s.imn.checkPending := by
  simp [closeWindow]

@[simp] theorem retestDisturbed_checkPending (s : State) : (retestDisturbed s).imn.checkPending = s.imn.checkPending := by
  unfold retestDisturbed; (repeat' split) <;> simp

@[simp] theorem endDisturbedKind_checkPending (s : State) : (endDisturbedKind s).imn.checkPending = s.imn.checkPending := by
  unfold endDisturbedKind; split <;> simp [releaseHeater, answerUnlockCycle]

@[simp] theorem completeDisturbed_checkPending (s : State) : (completeDisturbed s).imn.checkPending = s.imn.checkPending := by
  simp [completeDisturbed, imnIdle, quiesce]

@[simp] theorem takeNotice_checkPending (s : State) : (takeNotice s).imn.checkPending = s.imn.checkPending := by
  unfold takeNotice; dsimp only; (repeat' split) <;> simp

@[simp] theorem heaterMove_checkPending (f : Bhc → Bhc) (s : State) : (heaterMove f s).imn.checkPending = s.imn.checkPending := by
  unfold heaterMove withNotice; split <;> simp

@[simp] theorem stopAllocation_checkPending (s : State) : (stopAllocation s).imn.checkPending = s.imn.checkPending := by
  unfold stopAllocation handGrant; dsimp only; (repeat' split) <;> simp

/-! ### Entering a state -/

theorem Csc.with_session_eq_self {c : Csc} {x : Session} (h : c.session = x) : { c with session := x } = c := by
  subst h; rfl

@[simp] theorem enterSession_csc (n : Session) (s : State) : (enterSession n s).csc = { s.csc with session := n } := by
  unfold enterSession; dsimp only
  split
  case isTrue h => exact (Csc.with_session_eq_self h).symm
  case isFalse => (repeat' split) <;> simp

/-- Leaving TRANSFER makes the battery share 0 and touches nothing else of the allocator (R35). -/
theorem enterSession_alc {n : Session} (s : State) (hn : n ≠ .transfer) :
    (enterSession n s).alc = if s.csc.session = .transfer then { s.alc with share := 0 } else s.alc := by
  unfold enterSession; dsimp only
  (repeat' split) <;> simp_all

@[simp] theorem loadSlot0_waiting (outlet : Nat) (s : State) (k : TxKind) :
    waitingFrame (loadSlot0 outlet s).slc k = waitingFrame s.slc k :=
  waitingFrame_congr rfl rfl

@[simp] theorem enterLinking_csc (s : State) :
    (enterLinking s).csc =
      { s.csc with session := .linking, helloCount := 1, absentRaised := false, helloT := some Config.helloMs } := by
  simp [enterLinking, sendHello]

@[simp] theorem enterLinking_waiting_stop (s : State) : waitingFrame (enterLinking s).slc .stop = waitingFrame s.slc .stop := by
  simp [enterLinking, sendHello, scheduleHello, scheduleFrame_waiting_other]

/-! ### Changes of the hold set (R9, R15) -/

theorem followHolds_csc (s : State) :
    (followHolds s).csc = { s.csc with
      session :=
        if s.csc.session = .transfer ∨ s.csc.session = .hold then (if s.csc.holds = .empty then .transfer else .hold)
        else s.csc.session } := by
  simp only [← HoldSet.isEmpty_iff]
  unfold followHolds
  cases hs : s.csc.session <;> cases he : s.csc.holds.isEmpty <;> simp [Csc.with_session_eq_self hs]

theorem changeHold_eq_self {r : HoldReason} {present : Bool} {s : State} (h : s.csc.holds.has r = present) :
    changeHold r present s = s := by
  simp [changeHold, h]

/-- A change of the hold set: the set takes the reason, and TRANSFER and HOLD follow the new set. -/
theorem changeHold_holds_session {r : HoldReason} {present : Bool} {s : State} (hk : s.csc.session.keepsHolds = true)
    (h : s.csc.holds.has r ≠ present) :
    (changeHold r present s).csc.holds = s.csc.holds.put r present
    ∧ (changeHold r present s).csc.session =
        if s.csc.session = .transfer ∨ s.csc.session = .hold then
          (if s.csc.holds.put r present = .empty then .transfer else .hold)
        else s.csc.session := by
  unfold changeHold
  cases hl : s.csc.session.isLive <;> simp [hk, h, hl, followHolds_csc]

/-- Where the hold set is kept, the reason ends up as asked, whether it stood so before or not. -/
theorem changeHold_holds (r : HoldReason) (present : Bool) {s : State} (hk : s.csc.session.keepsHolds = true) :
    (changeHold r present s).csc.holds = s.csc.holds.put r present := by
  by_cases h : s.csc.holds.has r = present
  · rw [changeHold_eq_self h, HoldSet.put_of_has h]
  · exact (changeHold_holds_session hk h).1

/-! ### Stops and closes (R10 to R12) -/

@[simp] theorem recordStop_csc (r : StopReason) (s : State) :
    (recordStop r s).csc = { s.csc with stopReason := some (s.csc.stopReason.getD r) } := by
  unfold recordStop
  split
  case h_1 h => rw [h, Option.getD_some, ← h]
  case h_2 h => by_cases hr : r = .unplugged <;> simp [h, hr]

theorem recordStop_waiting_stop {r : StopReason} {s : State} (hr : r ≠ .unplugged) (h : s.csc.stopReason = none) :
    waitingFrame (recordStop r s).slc .stop = some (partFrame .stop s.slc.ownAddr (be8 r.code)) := by
  simp [recordStop, h, hr, scheduleStop]

@[simp] theorem enterStopping_csc (s : State) :
    (enterStopping s).csc = { s.csc with session := .stopping, stoppingT := some Config.stoppingMs } := by
  simp [enterStopping]

theorem stopLive_uncut_csc (r : StopReason) (s : State) :
    (stopLive r false s).csc =
      { s.csc with
        session := .stopping, stopReason := some (s.csc.stopReason.getD r), stoppingT := some Config.stoppingMs } := by
  simp [stopLive]

theorem stopLive_uncut_alc (r : StopReason) (s : State) :
    (stopLive r false s).alc = if s.csc.session = .transfer then { s.alc with share := 0 } else s.alc := by
  simp [stopLive, enterStopping, enterSession_alc]

theorem stopLive_uncut_waiting_stop {r : StopReason} {s : State} (hr : r ≠ .unplugged) (h : s.csc.stopReason = none) :
    waitingFrame (stopLive r false s).slc .stop = some (partFrame .stop s.slc.ownAddr (be8 r.code)) := by
  simp [stopLive, recordStop_waiting_stop hr h]

@[simp] theorem returnToLinking_csc (s : State) :
    (returnToLinking s).csc =
      { s.csc with
        session := .linking, checkingT := none, holds := .empty, auth := false, authRef := 0xFFFFFFFF,
        identity := absentWord, offer := none, statusT := none, pauseT := none, silence := none, linkAge := none,
        helloCount := 1, absentRaised := false, helloT := some Config.helloMs } := by
  simp [returnToLinking]

@[simp] theorem returnToLinking_checkPending (s : State) : (returnToLinking s).imn.checkPending = false := by
  simp [returnToLinking, withdrawCheck]

@[simp] theorem returnToLinking_waiting_stop (s : State) :
    waitingFrame (returnToLinking s).slc .stop = waitingFrame s.slc .stop := by
  simp [returnToLinking, waitingFrame_withdraw_other]

/-- What a close's last step makes of the state: LINKING at once after 10,000 ms of silence, else ENDED (R18). -/
theorem enterEnded_eq (s : State) :
    enterEnded s =
      if s.csc.silence = some Config.lostMs then returnToLinking (enterSession .ended s) else enterSession .ended s := by
  simp [enterEnded]

theorem enterEnded_session (s : State) : (enterEnded s).csc.session = closedSession s := by
  rw [enterEnded_eq, closedSession, Config.lostMs]; split <;> simp

@[simp] theorem enterEnded_stopReason (s : State) : (enterEnded s).csc.stopReason = s.csc.stopReason := by
  rw [enterEnded_eq]; split <;> simp

theorem enterEnded_checkingT {s : State} (h : s.csc.checkingT = none) : (enterEnded s).csc.checkingT = none := by
  rw [enterEnded_eq]; split <;> simp [h]

theorem enterEnded_checkPending {s : State} (h : s.imn.checkPending = false) : (enterEnded s).imn.checkPending = false := by
  rw [enterEnded_eq]; split <;> simp [enterSession_other, h]

@[simp] theorem enterEnded_waiting_stop (s : State) : waitingFrame (enterEnded s).slc .stop = waitingFrame s.slc .stop := by
  rw [enterEnded_eq]; split <;> simp

@[simp] theorem closeSteps_csc (unplug : Bool) (s : State) :
    (closeSteps unplug s).csc =
      { s.csc with
        enable := false, auth := false, authRef := 0xFFFFFFFF, holds := s.csc.holds.put .noVoltage false,
        readyT := none, stoppingT := none, requestT := none, meterT := none } := by
  unfold closeSteps; dsimp only; (repeat' split) <;> simp

@[simp] theorem closeSteps_checkPending (unplug : Bool) (s : State) :
    (closeSteps unplug s).imn.checkPending = s.imn.checkPending := by
  unfold closeSteps; dsimp only; (repeat' split) <;> simp

@[simp] theorem closeSteps_waiting_stop (unplug : Bool) (s : State) :
    waitingFrame (closeSteps unplug s).slc .stop = waitingFrame s.slc .stop := by
  unfold closeSteps scheduleMeter; dsimp only
  (repeat' split) <;> simp [scheduleFrame_waiting_other]

@[simp] theorem endChecking_csc (s : State) : (endChecking s).csc = { s.csc with checkingT := none } := by
  simp [endChecking]

@[simp] theorem endChecking_checkPending (s : State) : (endChecking s).imn.checkPending = false := by
  simp [endChecking, withdrawCheck]

theorem closeChecking_session (r : StopReason) (s : State) : (closeChecking r s).csc.session = closedSession s := by
  simp [closeChecking, closeSession, enterEnded_session, closedSession]

theorem closeChecking_stopReason (r : StopReason) (s : State) :
    (closeChecking r s).csc.stopReason = some (s.csc.stopReason.getD r) := by
  simp [closeChecking, closeSession]

theorem closeChecking_checkingT (r : StopReason) (s : State) : (closeChecking r s).csc.checkingT = none :=
  enterEnded_checkingT (by simp)

theorem closeChecking_checkPending (r : StopReason) (s : State) : (closeChecking r s).imn.checkPending = false :=
  enterEnded_checkPending (by simp)

theorem closeChecking_waiting_stop {r : StopReason} {s : State} (hr : r ≠ .unplugged) (h : s.csc.stopReason = none) :
    waitingFrame (closeChecking r s).slc .stop = some (partFrame .stop s.slc.ownAddr (be8 r.code)) := by
  simp [closeChecking, closeSession, recordStop_waiting_stop hr, h]

/-! ### The check of R5 -/

theorem startConditions_iff (s : State) :
    startConditions s = true ↔
      s.csc.auth = true ∧ offerValid s = true ∧ s.asm.subst = .off ∧ s.pins.fault = false ∧ s.pins.supplyFail = false := by
  have hoff : s.asm.subst.isActive = false ↔ s.asm.subst = .off := by cases s.asm.subst <;> simp [SubstState.isActive]
  simp [startConditions, hoff, and_assoc]

@[simp] theorem enterChecking_csc (s : State) :
    (enterChecking s).csc =
      { s.csc with
        session := .checking, stopReason := none, unrecorded := false, checkingT := some Config.checkingMs } := by
  simp [enterChecking]

@[simp] theorem checkStart_auth (s : State) : (checkStart s).csc.auth = s.csc.auth := by
  unfold checkStart; split <;> simp

theorem checkStart_session {s : State} (h : s.csc.session = .ready ∨ s.csc.session = .ended) :
    (checkStart s).csc.session = if startConditions s = true then .checking else s.csc.session := by
  simp only [checkStart, h, true_and]; split <;> simp

/-! ### Words that a port takes (R176) -/

theorem State.portOf_afterWord (s : State) (p : Port) : portOf p (s.afterWord p) = (portOf p s).takeWord := by
  cases p <;> rfl

/-- A port that takes writes acts on the word, after the word itself. -/
theorem writeWord_of_takesWrites {p : Port} {s : State} (h : (portOf p s).takesWrites) (code : Byte) (act : State → State) :
    writeWord p code act s = act (s.afterWord p) := by
  obtain ⟨hopen, hsnap⟩ := h
  have hsnap' : (portOf p (s.afterWord p)).snapshot = none := by
    rw [State.portOf_afterWord]; exact hsnap
  unfold State.afterWord at *
  simp [writeWord, takeWord, hopen, hsnap']

end Sys2Proof.Machine
end

section
/-! The session commands of the Vehicle Port (R20): what each does in the states of one row of its table, and the table itself. -/
namespace Sys2Proof.Machine

/-! ### The commands as their actions -/

section
variable {s : State} (h : s.vp.takesWrites)
include h

theorem exec_authorize : exec .authorize s = .next (authorizeAction (s.afterWord .vp)) :=
  congrArg Host.Outcome.next (writeWord_of_takesWrites (p := .vp) h 0x20 authorizeAction)

theorem exec_pause : exec .pause s = .next (pauseAction (s.afterWord .vp)) :=
  congrArg Host.Outcome.next (writeWord_of_takesWrites (p := .vp) h 0x20 pauseAction)

theorem exec_resume : exec .resume s = .next (resumeAction (s.afterWord .vp)) :=
  congrArg Host.Outcome.next (writeWord_of_takesWrites (p := .vp) h 0x20 resumeAction)

theorem exec_stop : exec .stop s = .next (stopAction (s.afterWord .vp)) :=
  congrArg Host.Outcome.next (writeWord_of_takesWrites (p := .vp) h 0x20 stopAction)

end

/-! ### Each command's action, state by state -/

theorem Session.keepsHolds_iff (x : Session) : x.keepsHolds = true ↔ x ≠ .unplugged ∧ x ≠ .linking := by
  cases x <;> simp [Session.keepsHolds]

theorem authorizeAction_refused {s : State}
    (h : s.csc.session = .unplugged ∨ s.csc.session = .linking ∨ s.csc.session = .stopping) :
    authorizeAction s = refuse .vp .badState 0x20 s := by
  rcases h with h | h | h <;> simp [authorizeAction, h]

theorem authorizeAction_starts {s : State} (h : s.csc.session = .ready ∨ s.csc.session = .ended) :
    authorizeAction s = checkStart (s.modCsc fun c => { c with auth := true }) := by
  rcases h with h | h <;> simp [authorizeAction, h]

theorem authorizeAction_ignored {s : State} (h : s.csc.session = .checking ∨ s.csc.session.isLive = true) :
    authorizeAction s = s := by
  cases hs : s.csc.session <;> simp_all [authorizeAction, Session.isLive]

theorem pauseAction_refused {s : State} (h : s.csc.session = .unplugged ∨ s.csc.session = .linking) :
    pauseAction s = refuse .vp .badState 0x20 s := by
  rcases h with h | h <;> simp [pauseAction, h, Session.keepsHolds]

theorem resumeAction_refused {s : State} (h : s.csc.session = .unplugged ∨ s.csc.session = .linking) :
    resumeAction s = refuse .vp .badState 0x20 s := by
  rcases h with h | h <;> simp [resumeAction, h, Session.keepsHolds]

theorem pauseAction_kept {s : State} (h : s.csc.session.keepsHolds = true) :
    pauseAction s = changeHold .vehiclePause true s := by
  simp [pauseAction, h]

theorem resumeAction_kept {s : State} (h : s.csc.session.keepsHolds = true) :
    resumeAction s = changeHold .vehiclePause false s := by
  simp [resumeAction, h]

theorem stopAction_refused {s : State} (h : s.csc.session = .unplugged) : stopAction s = refuse .vp .badState 0x20 s := by
  simp [stopAction, h]

theorem stopAction_ignored {s : State} (h : s.csc.session = .linking ∨ s.csc.session = .stopping) : stopAction s = s := by
  rcases h with h | h <;> simp [stopAction, h]

theorem stopAction_disarms {s : State} (h : s.csc.session = .ready ∨ s.csc.session = .ended) :
    stopAction s = s.modCsc fun c => { c with auth := false } := by
  rcases h with h | h <;> simp [stopAction, h]

/-! ### What a vehicle pause and its release make of the session (R9, R15) -/

theorem changeHold_vehiclePause_session {s : State} (hk : s.csc.session.keepsHolds = true) :
    (changeHold .vehiclePause true s).csc.session =
      if s.csc.session = .transfer ∧ s.csc.holds.vehiclePause = false then .hold else s.csc.session := by
  cases hv : s.csc.holds.vehiclePause with
  | true => simp [changeHold_eq_self (r := .vehiclePause) hv]
  | false =>
    rw [(changeHold_holds_session hk (by simp [HoldSet.has, hv])).2]
    by_cases hh : s.csc.session = .hold <;> simp [hh, HoldSet.put_true_ne_empty]

theorem changeHold_vehicleRelease_session {s : State} (hs : s.csc.session = .hold) (hv : s.csc.holds.vehiclePause = true) :
    (changeHold .vehiclePause false s).csc.session =
      if s.csc.holds = { HoldSet.empty with vehiclePause := true } then .transfer else .hold := by
  have hk : s.csc.session.keepsHolds = true := by simp [hs, Session.keepsHolds]
  rw [(changeHold_holds_session hk (by simp [HoldSet.has, hv])).2]
  simp [hs, HoldSet.release_vehiclePause_eq_empty_iff hv]

/-! ### The table -/

/-- AUTHORIZE in READY and ENDED is the check of R5 with the authorization given. -/
theorem authorizeAction_starts_session {s : State} (h : s.csc.session = .ready ∨ s.csc.session = .ended) :
    (authorizeAction s).csc.auth = true
    ∧ (authorizeAction s).csc.session =
        if offerValid s = true ∧ s.asm.subst = .off ∧ s.pins.fault = false ∧ s.pins.supplyFail = false then .checking
        else s.csc.session := by
  rw [authorizeAction_starts h]
  refine ⟨by simp, ?_⟩
  rw [checkStart_session (by simpa using h)]
  exact if_congr (by simp [startConditions_iff, offerValid]) rfl rfl

/-- STOP in CHECKING closes the session with the vehicle's stop. -/
theorem stopAction_checking {s : State} (h : s.csc.session = .checking) (hr : s.csc.stopReason = none) :
    (stopAction s).csc.session = closedSession s ∧ (stopAction s).csc.stopReason = some .vehicleStop
    ∧ (stopAction s).csc.checkingT = none ∧ (stopAction s).imn.checkPending = false
    ∧ waitingFrame (stopAction s).slc .stop = some (partFrame .stop s.slc.ownAddr (be8 1)) := by
  have hact : stopAction s = closeChecking .vehicleStop s := by simp [stopAction, h]
  rw [hact]
  exact ⟨closeChecking_session _ s, by simp [closeChecking_stopReason, hr], closeChecking_checkingT _ s,
    closeChecking_checkPending _ s, closeChecking_waiting_stop nofun hr⟩

/-- STOP in a live session enters STOPPING without a cut of the converter. -/
theorem stopAction_live {s : State} (h : s.csc.session.isLive = true) :
    (stopAction s).csc.session = .stopping ∧ (stopAction s).csc.stopReason = some (s.csc.stopReason.getD .vehicleStop)
    ∧ (stopAction s).csc.stoppingT = some 1000 ∧ (stopAction s).csc.enable = s.csc.enable
    ∧ (stopAction s).alc = (if s.csc.session = .transfer then { s.alc with share := 0 } else s.alc)
    ∧ (s.csc.stopReason = none →
        waitingFrame (stopAction s).slc .stop = some (partFrame .stop s.slc.ownAddr (be8 1))) := by
  have hact : stopAction s = stopLive .vehicleStop false s := by
    cases hs : s.csc.session <;> simp_all [stopAction, Session.isLive]
  rw [hact, stopLive_uncut_csc]
  exact ⟨rfl, rfl, rfl, rfl, stopLive_uncut_alc _ s, stopLive_uncut_waiting_stop nofun⟩

/-- Settles O18: every command is its action on the state after the word, and each row is that action in the row's states. -/
theorem sessionCommandsFollowTheirTable : Obligations.SessionCommandsFollowTheirTable := by
  intro s hp
  rw [exec_authorize hp, exec_pause hp, exec_resume hp, exec_stop hp]
  refine ⟨?authorizeRefused, ?authorizeStarts, ?authorizeIgnored, ?holdsRefused, ?holdsKept, ?stopRefused, ?stopIgnored,
    ?stopDisarms, ?stopChecking, ?stopLive⟩
  case authorizeRefused => exact fun h => congrArg _ (authorizeAction_refused (s := s.afterWord .vp) h)
  case authorizeStarts => exact fun h => ⟨_, rfl, authorizeAction_starts_session (s := s.afterWord .vp) h⟩
  case authorizeIgnored => exact fun h => congrArg _ (authorizeAction_ignored (s := s.afterWord .vp) h)
  case holdsRefused =>
    exact fun h => ⟨congrArg _ (pauseAction_refused (s := s.afterWord .vp) h),
      congrArg _ (resumeAction_refused (s := s.afterWord .vp) h)⟩
  case holdsKept =>
    intro hu hl
    have hk : (s.afterWord .vp).csc.session.keepsHolds = true := (Session.keepsHolds_iff _).2 ⟨hu, hl⟩
    refine ⟨⟨_, congrArg _ (pauseAction_kept hk), changeHold_holds _ _ hk, changeHold_vehiclePause_session hk⟩,
      ⟨_, congrArg _ (resumeAction_kept hk), changeHold_holds _ _ hk, ?_⟩⟩
    exact fun hs hv => changeHold_vehicleRelease_session (s := s.afterWord .vp) hs hv
  case stopRefused => exact fun h => congrArg _ (stopAction_refused (s := s.afterWord .vp) h)
  case stopIgnored => exact fun h => congrArg _ (stopAction_ignored (s := s.afterWord .vp) h)
  case stopDisarms => exact fun h => congrArg _ (stopAction_disarms (s := s.afterWord .vp) h)
  case stopChecking => exact fun h hr => ⟨_, rfl, stopAction_checking (s := s.afterWord .vp) h hr⟩
  case stopLive => exact fun h => ⟨_, rfl, stopAction_live (s := s.afterWord .vp) h⟩

end Sys2Proof.Machine
end

section
/-! SUPPORT. What a completion makes of the Insulation Monitor's result record and of its judgement (verdict, cause, fault count,
latch): the monitor's own operations first, then the hand-overs, which find no phase running and so no notice to take. -/
namespace Sys2Proof.Machine

/-! ### The monitor's own operations -/

@[simp] theorem Imn.enterIdle_keeps (m : Imn) (live : Bool) :
    (m.enterIdle live).result = m.result ∧ (m.enterIdle live).verdict = m.verdict ∧ (m.enterIdle live).cause = m.cause ∧
    (m.enterIdle live).faultCount = m.faultCount ∧ (m.enterIdle live).latch = m.latch := by
  unfold Imn.enterIdle Imn.serveIdle
  split <;> exact ⟨rfl, rfl, rfl, rfl, rfl⟩

@[simp] theorem Imn.confirm_result (m : Imn) : m.confirm.result = m.result := by
  unfold Imn.confirm; split <;> rfl

@[simp] theorem Imn.countRetest_keeps (m : Imn) (r : Retest) (good : Nat) (dry : Bool) :
    (m.countRetest r good dry).st = m.st ∧ (m.countRetest r good dry).result = m.result := by
  unfold Imn.countRetest; (repeat' split) <;> exact ⟨rfl, rfl⟩

/-- A retest releases the latch at two good cycles only (R82). -/
theorem Imn.countRetest_judgement (m : Imn) (r : Retest) {good : Nat} (dry : Bool) (h : good < 2) :
    (m.countRetest r good dry).verdict = m.verdict ∧ (m.countRetest r good dry).cause = m.cause ∧
    (m.countRetest r good dry).faultCount = m.faultCount ∧ (m.countRetest r good dry).latch = m.latch := by
  rw [Imn.countRetest, if_neg (Nat.not_le.2 h)]
  split <;> exact ⟨rfl, rfl, rfl, rfl⟩

@[simp] theorem Imn.judgeBus_keeps (m : Imn) (minimum w f : Int) :
    (m.judgeBus minimum w f).st = m.st ∧ (m.judgeBus minimum w f).result = m.result := by
  unfold Imn.judgeBus; (repeat' split) <;> exact ⟨rfl, rfl⟩

@[simp] theorem Imn.judgeLow_keeps (m : Imn) (minimum f : Int) :
    (m.judgeLow minimum f).st = m.st ∧ (m.judgeLow minimum f).result = m.result := by
  unfold Imn.judgeLow; (repeat' split) <;> exact ⟨rfl, rfl⟩

@[simp] theorem Imn.judgePair_keeps (m : Imn) (t : Trigger) (mb w f : Int) :
    (m.judgePair t mb w f).st = m.st ∧ (m.judgePair t mb w f).result = m.result := by
  unfold Imn.judgePair; dsimp only; (repeat' split) <;> simp

@[simp] theorem Imn.judgeUnderHeater_keeps (m : Imn) (minimum f : Int) :
    (m.judgeUnderHeater minimum f).st = m.st ∧ (m.judgeUnderHeater minimum f).result = m.result := by
  unfold Imn.judgeUnderHeater; (repeat' split) <;> exact ⟨rfl, rfl⟩

@[simp] theorem Imn.judgeUnlock_keeps (m : Imn) (minimum w : Int) :
    (m.judgeUnlock minimum w).st = m.st ∧ (m.judgeUnlock minimum w).result = m.result := by
  unfold Imn.judgeUnlock; split <;> exact ⟨rfl, rfl⟩

/-- A judgement is no step of the cycle, and leaves the record to the completion. -/
@[simp] theorem Imn.judge_keeps (m : Imn) (minimum w f : Int) :
    (m.judge minimum w f).st = m.st ∧ (m.judge minimum w f).result = m.result := by
  unfold Imn.judge; (repeat' split) <;> simp

@[simp] theorem Imn.countCompletion_keeps (m : Imn) (on : Bool) :
    (m.countCompletion on).st = m.st ∧ (m.countCompletion on).result = m.result := ⟨rfl, rfl⟩

@[simp] theorem Imn.record_judgement (m : Imn) (res : Option (Nat × Nat)) (t : Ttc) :
    (m.record res t).verdict = m.verdict ∧ (m.record res t).cause = m.cause ∧
    (m.record res t).faultCount = m.faultCount ∧ (m.record res t).latch = m.latch := ⟨rfl, rfl, rfl, rfl⟩

@[simp] theorem imnIdle_imn (s : State) : (imnIdle s).imn = s.imn.enterIdle s.csc.session.isLive := rfl

@[simp] theorem quiesce_imn (s : State) :
    (quiesce s).imn = { s.imn with st := .idle, settleT := none, settleReady := false } := rfl

@[simp] theorem withdrawCheck_imn (s : State) :
    (withdrawCheck s).imn = { s.imn with checkPending := false, servesCheck := false } := rfl

@[simp] theorem judgeCompletion_keeps (minimum : Nat) (w f : Int) (s : State) :
    (judgeCompletion minimum w f s).imn.st = s.imn.st ∧ (judgeCompletion minimum w f s).imn.result = s.imn.result := by
  unfold judgeCompletion retestCompletion; dsimp only; (repeat' split) <;> simp

@[simp] theorem triggerBranch_result (minimum limit : Int) (s : State) :
    (triggerBranch minimum limit s).imn.result = s.imn.result := by
  unfold triggerBranch; dsimp only; split <;> simp

/-! ### Hand-overs to the heater, of which the monitor keeps the UNLOCK request alone (R87, R104), and what DISTURBED ends -/

theorem requestUnlockIfDue_imn (s : State) : ∃ u, (requestUnlockIfDue s).imn = { s.imn with unlockPending := u } := by
  unfold requestUnlockIfDue; split
  · exact ⟨true, rfl⟩
  · exact ⟨s.imn.unlockPending, rfl⟩

theorem closeWindow_imn (s : State) : ∃ u, (closeWindow s).imn = { s.imn with unlockPending := u } :=
  requestUnlockIfDue_imn _

@[simp] theorem closeWindow_keeps (s : State) :
    (closeWindow s).imn.avgA = s.imn.avgA ∧ (closeWindow s).imn.bridge = s.imn.bridge := by
  obtain ⟨u, hu⟩ := closeWindow_imn s
  simp [hu]

theorem releaseHeater_imn (s : State) : ∃ u, (releaseHeater s).imn = { s.imn with unlockPending := u } :=
  requestUnlockIfDue_imn _

@[simp] theorem answerUnlockCycle_imn (passed : Bool) (s : State) :
    (answerUnlockCycle passed s).imn = { s.imn with unlockPending := false } := by
  simp [answerUnlockCycle]

theorem handHeater_imn (before : Imn) (minimum w : Int) (s : State) :
    ∃ u, (handHeater before minimum w s).imn = { s.imn with unlockPending := u } := by
  unfold handHeater
  split
  case h_1 =>
    split
    · exact ⟨s.imn.unlockPending, by simp⟩
    · exact releaseHeater_imn s
  case h_2 => exact ⟨false, answerUnlockCycle_imn _ s⟩
  case h_3 => exact ⟨s.imn.unlockPending, rfl⟩

@[simp] theorem handHeater_keeps (before : Imn) (minimum w : Int) (s : State) :
    (handHeater before minimum w s).imn.st = s.imn.st ∧ (handHeater before minimum w s).imn.result = s.imn.result := by
  obtain ⟨u, hu⟩ := handHeater_imn before minimum w s
  simp [hu]

theorem endDisturbedKind_imn (s : State) :
    ∃ t u, (endDisturbedKind s).imn = { s.imn with trigger := t, unlockPending := u } := by
  unfold endDisturbedKind
  split
  case h_1 =>
    obtain ⟨u, hu⟩ := releaseHeater_imn (s.modImn fun m => { m with trigger := none })
    exact ⟨none, u, hu⟩
  case h_2 => exact ⟨s.imn.trigger, false, answerUnlockCycle_imn _ s⟩
  case h_3 => exact ⟨s.imn.trigger, s.imn.unlockPending, rfl⟩

@[simp] theorem endDisturbedKind_keeps (s : State) :
    (endDisturbedKind s).imn.result = s.imn.result ∧ (endDisturbedKind s).imn.verdict = s.imn.verdict ∧
    (endDisturbedKind s).imn.cause = s.imn.cause ∧ (endDisturbedKind s).imn.faultCount = s.imn.faultCount ∧
    (endDisturbedKind s).imn.latch = s.imn.latch := by
  obtain ⟨t, u, he⟩ := endDisturbedKind_imn s
  simp [he]

@[simp] theorem retestDisturbed_result (s : State) : (retestDisturbed s).imn.result = s.imn.result := by
  unfold retestDisturbed; (repeat' split) <;> simp

theorem retestDisturbed_judgement {s : State} (h : ∀ r, s.imn.retest = some r → r.good < 2) :
    (retestDisturbed s).imn.verdict = s.imn.verdict ∧ (retestDisturbed s).imn.cause = s.imn.cause ∧
    (retestDisturbed s).imn.faultCount = s.imn.faultCount ∧ (retestDisturbed s).imn.latch = s.imn.latch := by
  unfold retestDisturbed
  split
  case h_1 => exact ⟨rfl, rfl, rfl, rfl⟩
  case h_2 r hr =>
    have hj := s.imn.countRetest_judgement r false (h r hr)
    (repeat' split) <;> simp [hj]

/-! ### Hand-overs to the controller and its moves, while no phase runs -/

section
variable {s : State} (h : s.imn.st.isAveraging = false)
include h

/-- Only a running phase can be disturbed (R76). -/
theorem takeNotice_eq_self : takeNotice s = s := by simp [takeNotice, h]

@[simp] theorem heaterMove_imn (f : Bhc → Bhc) : (heaterMove f s).imn = s.imn := by
  unfold heaterMove withNotice; split
  · rw [takeNotice_eq_self (s := s.modBhc f) h, State.modBhc_imn]
  · rfl

@[simp] theorem stopAllocation_imn : (stopAllocation s).imn = s.imn := by
  unfold stopAllocation handGrant; dsimp only
  (repeat' split) <;> simp [takeNotice_eq_self, h]

@[simp] theorem cutConverter_imn : (cutConverter s).imn = s.imn := by
  unfold cutConverter cutSetpoint; dsimp only
  split <;> simp [takeNotice_eq_self, h]

@[simp] theorem enterSession_imn (n : Session) : (enterSession n s).imn = s.imn := by
  unfold enterSession; dsimp only
  (repeat' split) <;> simp [h]

@[simp] theorem stopLive_imn (r : StopReason) (cut : Bool) : (stopLive r cut s).imn = s.imn := by
  cases cut <;> simp [stopLive, h]

@[simp] theorem closeSteps_imn (unplug : Bool) : (closeSteps unplug s).imn = s.imn := by
  unfold closeSteps; dsimp only
  (repeat' split) <;> simp [h]

@[simp] theorem closeSession_imn :
    (closeSession s).imn =
      if s.csc.silence = some Config.lostMs then { s.imn with checkPending := false, servesCheck := false } else s.imn := by
  rw [closeSession, enterEnded_eq]
  simp only [closeSteps_csc]
  split <;> simp [returnToLinking, h]

@[simp] theorem closeChecking_imn (r : StopReason) :
    (closeChecking r s).imn = { s.imn with checkPending := false, servesCheck := false } := by
  simp [closeChecking, endChecking, h]

@[simp] theorem cscTakesVerdict_keeps :
    (cscTakesVerdict s).imn.st = s.imn.st ∧ (cscTakesVerdict s).imn.result = s.imn.result := by
  unfold cscTakesVerdict; (repeat' split) <;> simp [h]

@[simp] theorem testLinkLost_imn : (testLinkLost s).imn = s.imn := by
  unfold testLinkLost; split <;> simp [h]

@[simp] theorem readyRise_imn : (readyRise s).imn = s.imn := by
  unfold readyRise; dsimp only
  split <;> simp [h]

@[simp] theorem beginStarting_imn (unrecorded : Bool) : (beginStarting unrecorded s).imn = s.imn := by
  unfold beginStarting; dsimp only
  split <;> simp (disch := simp [h])

@[simp] theorem enterStarting_result : (enterStarting s).imn.result = s.imn.result := by
  unfold enterStarting; dsimp only
  split
  case h_1 => simp only [closeSession_imn, recordStop_frame, requestBank_frame, State.modCsc_imn, h]; split <;> rfl
  case h_2 => simp [h]
  case h_3 => simp [h]

@[simp] theorem answerCheck_result : (answerCheck s).imn.result = s.imn.result := by
  unfold answerCheck; dsimp only
  (repeat' split) <;> simp [h]

/-- The record stands through the four hand-overs, in either order. -/
@[simp] theorem handVerdict_keeps (order : HandOver) (before : Imn) (minimum : Nat) (w : Int) :
    (handVerdict order before minimum w s).imn.st = s.imn.st ∧
    (handVerdict order before minimum w s).imn.result = s.imn.result := by
  unfold handVerdict; dsimp only
  cases order <;> cases verdictChanged before s.imn <;> simp [h]

end

/-! ### Completions -/

/-- The record of a completion marked DISTURBED is the one made at its start. -/
@[simp] theorem completeDisturbed_result (s : State) :
    (completeDisturbed s).imn.result = (s.imn.record none s.ttc).result := by
  simp [completeDisturbed]

/-- A completion marked DISTURBED judges nothing (R89). -/
theorem completeDisturbed_judgement {s : State} (h : CountsInRange s.imn) :
    (completeDisturbed s).imn.verdict = s.imn.verdict ∧ (completeDisturbed s).imn.cause = s.imn.cause ∧
    (completeDisturbed s).imn.faultCount = s.imn.faultCount ∧ (completeDisturbed s).imn.latch = s.imn.latch := by
  obtain ⟨-, -, hgood⟩ := h
  simpa [completeDisturbed] using
    retestDisturbed_judgement (s := quiesce (s.modImn fun m => m.record none s.ttc)) hgood

/-- The record of a cycle with resistances is the one made at its completion. -/
@[simp] theorem completeCycle_result (order : HandOver) (res : Nat × Nat) (b : AveragesB) (s : State) :
    (completeCycle order res b s).imn.result = (s.imn.record (some res) s.ttc).result := by
  unfold completeCycle; dsimp only
  (repeat' split) <;> simp [CycleState.isAveraging]

end Sys2Proof.Machine
end

section
/-! The Insulation Monitor (chapter 4): the steps of R78 from averages to resistances, and the record at the end of phase B. -/
namespace Sys2Proof.Machine

/-! ### The steps of R78 -/

section
variable {rM : Nat} {a : AveragesA} {b : AveragesB}

/-- Step 1: a phase with no voltage across it gives no resistances. -/
theorem resistances_step1 (h : a.vp + a.vn ≤ 0 ∨ b.vp + b.vn ≤ 0) : resistances rM a b = none := by
  simp only [resistances, if_pos h]

/-- Step 2: the positive rail stands on the chassis. -/
theorem resistances_step2 (ha : 0 < a.vp + a.vn) (hb : 0 < b.vp + b.vn) (h : 100 * a.vp < a.vp + a.vn) :
    resistances rM a b = some (0, 50000) := by
  have h1 : ¬ (a.vp + a.vn ≤ 0 ∨ b.vp + b.vn ≤ 0) := by omega
  simp only [resistances, if_neg h1, if_pos h]

/-- Step 3: the negative rail stands on the chassis. -/
theorem resistances_step3 (ha : 0 < a.vp + a.vn) (hb : 0 < b.vp + b.vn) (h2 : a.vp + a.vn ≤ 100 * a.vp)
    (h : 100 * b.vn < b.vp + b.vn) : resistances rM a b = some (50000, 0) := by
  have h1 : ¬ (a.vp + a.vn ≤ 0 ∨ b.vp + b.vn ≤ 0) := by omega
  simp only [resistances, if_neg h1, if_neg (not_lt.2 h2), if_pos h]

/-- Steps 4 and 5: neither rail stands on the chassis, and the sign of D decides. -/
theorem resistances_step4_5 (ha : 0 < a.vp + a.vn) (hb : 0 < b.vp + b.vn) (h2 : a.vp + a.vn ≤ 100 * a.vp)
    (h3 : b.vp + b.vn ≤ 100 * b.vn) :
    resistances rM a b =
      if determinant a b ≤ 0 then none
      else some (min 50000 (rM * determinant a b / (b.vn * (a.vp + a.vn))).toNat,
                 min 50000 (rM * determinant a b / (a.vp * (b.vp + b.vn))).toNat) := by
  have h1 : ¬ (a.vp + a.vn ≤ 0 ∨ b.vp + b.vn ≤ 0) := by omega
  simp only [resistances, if_neg h1, if_neg (not_lt.2 h2), if_neg (not_lt.2 h3)]

end

/-- A quotient saturated to `cap` lies in the bracket of its floor, but for the upper end where it is saturated. -/
theorem saturatedQuotient_bracket {x d : Int} (cap : Nat) (hx : 0 ≤ x) (hd : 0 < d) :
    min cap (x / d).toNat ≤ cap
    ∧ ((min cap (x / d).toNat : Nat) : Int) * d ≤ x
    ∧ (min cap (x / d).toNat < cap → x < ((min cap (x / d).toNat : Nat) + 1 : Int) * d) := by
  have hq : ((x / d).toNat : Int) = x / d := Int.toNat_of_nonneg (Int.ediv_nonneg hx hd.le)
  refine ⟨Nat.min_le_left _ _, ?lower, fun hlt => ?upper⟩
  case lower =>
    calc ((min cap (x / d).toNat : Nat) : Int) * d
        ≤ ((x / d).toNat : Int) * d := mul_le_mul_of_nonneg_right (by omega) hd.le
      _ = x / d * d := by rw [hq]
      _ ≤ x := Int.ediv_mul_le x hd.ne'
  case upper =>
    have hmin : min cap (x / d).toNat = (x / d).toNat := by omega
    rw [hmin, hq]
    exact Int.lt_ediv_add_one_mul_self x hd

/-- Step 5: both resistances are the floors of their formulas, saturated to 50,000 kΩ. -/
theorem resistances_step5 {rM : Nat} {a : AveragesA} {b : AveragesB} (ha : 0 < a.vp + a.vn) (hb : 0 < b.vp + b.vn)
    (h2 : a.vp + a.vn ≤ 100 * a.vp) (h3 : b.vp + b.vn ≤ 100 * b.vn) (hd : 0 < determinant a b) :
    ∃ rp rn : Nat, resistances rM a b = some (rp, rn) ∧ rp ≤ 50000 ∧ rn ≤ 50000
      ∧ (rp : Int) * (b.vn * (a.vp + a.vn)) ≤ rM * determinant a b
      ∧ (rp < 50000 → rM * determinant a b < (rp + 1 : Int) * (b.vn * (a.vp + a.vn)))
      ∧ (rn : Int) * (a.vp * (b.vp + b.vn)) ≤ rM * determinant a b
      ∧ (rn < 50000 → rM * determinant a b < (rn + 1 : Int) * (a.vp * (b.vp + b.vn))) := by
  have hx : 0 ≤ (rM : Int) * determinant a b := mul_nonneg (Int.natCast_nonneg rM) hd.le
  have hvn : 0 < b.vn := by omega
  have hvp : 0 < a.vp := by omega
  obtain ⟨hpCap, hpLower, hpUpper⟩ := saturatedQuotient_bracket 50000 hx (mul_pos hvn ha)
  obtain ⟨hnCap, hnLower, hnUpper⟩ := saturatedQuotient_bracket 50000 hx (mul_pos hvp hb)
  refine ⟨_, _, ?_, hpCap, hnCap, hpLower, hpUpper, hnLower, hnUpper⟩
  rw [resistances_step4_5 ha hb h2 h3, if_neg (not_le.2 hd)]

/-! ### The end of phase B -/

/-- The state in which a cycle completes: the phase B averages kept, the window closed (R75). -/
def phaseBClosed (s : State) : State := closeWindow (s.modImn fun m => { m with avgB := some s.imn.averagesB })

/-- Of the monitor, the close takes the averages and may raise the UNLOCK request. -/
theorem phaseBClosed_imn (s : State) :
    ∃ u, (phaseBClosed s).imn = { s.imn with avgB := some s.imn.averagesB, unlockPending := u } :=
  closeWindow_imn _

@[simp] theorem phaseBClosed_ttc (s : State) : (phaseBClosed s).ttc = s.ttc := by simp [phaseBClosed]

theorem exec_averagingEnd_phaseB {s : State} (order : HandOver) (hst : s.imn.st = .averageB) (hc : s.imn.count = 256) :
    exec (.averagingEnd order) s = .next (endPhaseB order s) := by
  change execAveragingEnd order s = _
  simp [execAveragingEnd, hst, hc, Config.averagingSlots]

section
variable {s : State} {a : AveragesA} (order : HandOver) (ha : s.imn.avgA = some a)
include ha

theorem endPhaseB_disturbed (hr : resistances s.imn.bridge a s.imn.averagesB = none) :
    endPhaseB order s = completeDisturbed (phaseBClosed s) := by
  simp [endPhaseB, phaseBClosed, ha, hr]

theorem endPhaseB_completes {res : Nat × Nat} (hr : resistances s.imn.bridge a s.imn.averagesB = some res) :
    endPhaseB order s = completeCycle order res s.imn.averagesB (phaseBClosed s) := by
  simp [endPhaseB, phaseBClosed, ha, hr]

/-- Whichever completion the steps call for, its record holds what they give. -/
theorem endPhaseB_result :
    (endPhaseB order s).imn.result =
      ((phaseBClosed s).imn.record (resistances s.imn.bridge a s.imn.averagesB) s.ttc).result := by
  cases hr : resistances s.imn.bridge a s.imn.averagesB with
  | none => rw [endPhaseB_disturbed order ha hr, completeDisturbed_result, phaseBClosed_ttc]
  | some res => rw [endPhaseB_completes order ha hr, completeCycle_result, phaseBClosed_ttc]

end

theorem CountsInRange.phaseBClosed {s : State} (h : CountsInRange s.imn) : CountsInRange (phaseBClosed s).imn := by
  obtain ⟨u, hu⟩ := phaseBClosed_imn s
  rw [hu]; exact h

/-- A cycle whose steps give no resistances keeps the judgement (R89). -/
theorem endPhaseB_judgement {s : State} {a : AveragesA} (order : HandOver) (ha : s.imn.avgA = some a)
    (hr : resistances s.imn.bridge a s.imn.averagesB = none) (hcounts : CountsInRange s.imn) :
    (endPhaseB order s).imn.verdict = s.imn.verdict ∧ (endPhaseB order s).imn.cause = s.imn.cause ∧
    (endPhaseB order s).imn.faultCount = s.imn.faultCount ∧ (endPhaseB order s).imn.latch = s.imn.latch := by
  obtain ⟨u, hu⟩ := phaseBClosed_imn s
  have hj := completeDisturbed_judgement hcounts.phaseBClosed
  rw [hu] at hj
  rw [endPhaseB_disturbed order ha hr]
  exact hj

theorem averagesB_eq_fdiv (m : Imn) :
    m.averagesB = ⟨Int.fdiv m.sumP 256, Int.fdiv m.sumN 256, Int.fdiv m.sumV 256⟩ := by
  simp [Imn.averagesB, Int.fdiv_eq_ediv_of_nonneg]

/-- Settles O29: the five steps one by one, and the record of the completion that they call for. -/
theorem resistancesFollowTheirSteps : Obligations.ResistancesFollowTheirSteps := by
  refine ⟨fun rM a b => ⟨resistances_step1, fun ha hb => ⟨?step2, ?step3, ?step4, ?step5⟩⟩, ?record⟩
  case step2 => exact resistances_step2 ha hb
  case step3 => exact resistances_step3 ha hb
  case step4 =>
    intro h2 h3 hd
    rw [resistances_step4_5 ha hb h2 h3]
    exact if_pos hd
  case step5 => exact resistances_step5 ha hb
  case record =>
    intro s order hst hcount a ha
    obtain ⟨u, hu⟩ := phaseBClosed_imn s
    rw [← averagesB_eq_fdiv]
    refine ⟨endPhaseB order s, exec_averagingEnd_phaseB order hst hcount, ?_, endPhaseB_judgement order ha⟩
    rw [endPhaseB_result order ha, hu, Int.fdiv_eq_ediv_of_nonneg _ (by decide)]
    rfl

end Sys2Proof.Machine
end

section
/-! The Metering Engine (chapter 7): the split of a period's AC energy into its heating and traction shares (R131), and the close
that keeps the result. -/
namespace Sys2Proof.Machine

/-! ### The split (R131) -/

section
variable {c : Closing}

/-- The heater took at least what the converter delivered: all the AC energy went to heating. -/
theorem heatingShare_of_le (ha : 0 < c.pAc) (ho : 0 < c.pObc) (hh : 0 < c.pHtr) (hle : c.pObc ≤ c.pHtr) :
    (heatingShare c : Int) = c.pAc := by
  rw [heatingShare, if_pos ⟨ha, ho, hh⟩, if_pos hle, Int.toNat_of_nonneg ha.le]

/-- The heater took a part of what the converter delivered: heating has that part of the AC energy, rounded down. -/
theorem heatingShare_of_lt (ha : 0 < c.pAc) (ho : 0 < c.pObc) (hh : 0 < c.pHtr) (hlt : c.pHtr < c.pObc) :
    (heatingShare c : Int) = c.pAc * c.pHtr / c.pObc := by
  rw [heatingShare, if_pos ⟨ha, ho, hh⟩, if_neg (not_le.2 hlt),
    Int.toNat_of_nonneg (Int.ediv_nonneg (mul_nonneg ha.le hh.le) ho.le)]

theorem heatingShare_eq_zero (h : c.pAc ≤ 0 ∨ c.pObc ≤ 0 ∨ c.pHtr ≤ 0) : heatingShare c = 0 :=
  if_neg fun ⟨ha, ho, hh⟩ => by omega

/-- Heating never has more than the AC energy, since the ratio P_htr / P_obc counts only below 1. -/
theorem heatingShare_le (ha : 0 < c.pAc) : (heatingShare c : Int) ≤ c.pAc := by
  by_cases hpos : 0 < c.pObc ∧ 0 < c.pHtr
  case neg =>
    have hzero : heatingShare c = 0 := heatingShare_eq_zero (by omega)
    rw [hzero]; exact ha.le
  case pos =>
    obtain ⟨ho, hh⟩ := hpos
    rcases le_or_gt c.pObc c.pHtr with hle | hlt
    · exact (heatingShare_of_le ha ho hh hle).le
    · calc (heatingShare c : Int)
          = c.pAc * c.pHtr / c.pObc := heatingShare_of_lt ha ho hh hlt
        _ ≤ c.pAc * c.pObc / c.pObc := Int.ediv_le_ediv ho (mul_le_mul_of_nonneg_left hlt.le ha.le)
        _ = c.pAc := Int.mul_ediv_cancel _ ho.ne'

/-- Traction has the rest, to the last unit. -/
theorem tractionShare_add_heatingShare (ha : 0 < c.pAc) : (tractionShare c : Int) + heatingShare c = c.pAc := by
  have hle := heatingShare_le ha
  unfold tractionShare
  omega

theorem tractionShare_eq_zero (h : c.pAc ≤ 0) : tractionShare c = 0 := by
  rw [tractionShare, Int.toNat_of_nonpos h, Nat.zero_sub]

end

/-! ### The close -/

/-- No hand-over of a period result, nor the end of a substitution, touches the engine again. -/
@[simp] theorem periodClose_mtr (order : HandOver) (s : State) :
    (periodClose order s).mtr = s.mtr.closed s.bhc.run.isSome := by
  unfold periodClose; dsimp only; split <;> simp

theorem exec_periodClose_of_full {s : State} (order : HandOver) (h : s.mtr.slot = 4001) :
    exec (.periodClose order) s = .next (periodClose order s) := by
  have hfull : s.mtr.slot = Config.slotsPerPeriod + 1 := h
  change execPeriodClose order s = _
  rw [execPeriodClose, if_pos hfull]

/-- Settles O43: the result that the close keeps carries the shares of the energies it carries, and R131's split of any energies has
the five properties. -/
theorem heatingAndTractionSharesAddUp : Obligations.HeatingAndTractionSharesAddUp := by
  intro s order hslot
  refine ⟨periodClose order s, exec_periodClose_of_full order hslot, s.mtr.result s.bhc.run.isSome, ?kept,
    heatingShare_of_le, ?part, heatingShare_eq_zero, tractionShare_add_heatingShare, ?none⟩
  case kept => rw [periodClose_mtr]; rfl
  case part =>
    intro ha ho hh hlt
    rw [Int.fdiv_eq_ediv_of_nonneg _ ho.le]
    exact heatingShare_of_lt ha ho hh hlt
  case none => exact fun h => ⟨tractionShare_eq_zero h, heatingShare_eq_zero (.inl h)⟩

end Sys2Proof.Machine
end

section
/-! SUPPORT. The groups of eight and the addresses of the record memory: what a member reads after one member is replaced, when two
words of the memory are the same word, and when some bank is found. -/
namespace Sys2Proof.Machine

theorem Oct.get_set {α : Type} (v : Oct α) (i j : Fin 8) (x : α) : (v.set i x).get j = if j = i then x else v.get j := by
  fin_cases i <;> fin_cases j <;> rfl

theorem Oct.set_get_self {α : Type} (v : Oct α) (i : Fin 8) : v.set i (v.get i) = v := by
  fin_cases i <;> rfl

theorem firstBank_isSome_iff (p : BankState → Bool) (v : Oct Bank) :
    (firstBank p v).isSome = true ↔ ∃ b, p (v.get b).st = true := by
  have hexists : (∃ b, p (v.get b).st = true) ↔
      p v.c0.st ∨ p v.c1.st ∨ p v.c2.st ∨ p v.c3.st ∨ p v.c4.st ∨ p v.c5.st ∨ p v.c6.st ∨ p v.c7.st := by
    simp [Fin.exists_fin_succ, Oct.get]
  rw [hexists]
  unfold firstBank
  (repeat' split) <;> simp [*]

/-- Within the ranges of slot and word, an address names its bank, slot and word (R171). -/
theorem cellAddr_inj {b b' : Fin 8} {slot slot' word word' : Nat} (hs : slot < 64) (hw : word < 16) (hs' : slot' < 64)
    (hw' : word' < 16) : cellAddr b slot word = cellAddr b' slot' word' ↔ b = b' ∧ slot = slot' ∧ word = word' := by
  simp only [cellAddr, Fin.ext_iff]
  omega

theorem cellAddr_word9_ne {b b' : Fin 8} (h : b ≠ b') : cellAddr b 0 9 ≠ cellAddr b' 0 9 := fun he =>
  h ((cellAddr_inj (by decide) (by decide) (by decide) (by decide)).1 he).1

/-- The 1,024 addresses of a bank hold its slots and no other bank's. -/
theorem cellAddr_mem_bank_iff {b b' : Fin 8} {slot word : Nat} (hs : slot < 64) (hw : word < 16) :
    cellAddr b 0 0 ≤ cellAddr b' slot word ∧ cellAddr b' slot word < cellAddr b 0 0 + 1024 ↔ b' = b := by
  simp only [cellAddr, Fin.ext_iff]
  omega

end Sys2Proof.Machine
end

section
/-! The Billing Record Store at power-on (R168): the examination of one bank, of any set of banks, and of all eight. -/
namespace Sys2Proof.Machine

/-! ### One bank -/

/-- What the examination makes of word 9 of a bank's summary, by the state the bank was found in. -/
def examinedWord (found : BankState) (w : Word) : Word :=
  match found with
  | .openBank => uncleanWord true w
  | .settling => uncleanWord false w
  | .free | .closed => w

/-- The bank as the examination leaves it: no bank is OPEN or marked. -/
def Bank.examined (k : Bank) : Bank := { k with st := if k.st = .free then .free else .closed }

/-- Of a bank found OPEN, the low four bits become the reason POWER_LOSS; bit 12 is UNCLEAN. -/
theorem uncleanWord_open (w : Word) : uncleanWord true w = (w &&& 0xEFF0) ||| 0x100D := by
  have hreason : natWord powerLossCode = 0xD := rfl
  ext i hi
  simp only [uncleanWord, if_true, hreason, BitVec.getElem_or, BitVec.getElem_and]
  interval_cases i <;> simp

theorem Bank.examined_eq_self {k : Bank} (h : k.st = .free ∨ k.st = .closed) : k.examined = k := by
  obtain ⟨st, next⟩ := k
  rcases h with rfl | rfl <;> rfl

theorem examineBank_banks (b : Fin 8) (r : Brs) : (examineBank b r).banks = r.banks.set b (r.banks.get b).examined := by
  unfold examineBank
  cases hst : (r.banks.get b).st with
  | openBank | settling => simp [Bank.examined, hst]
  | free | closed => simp [Bank.examined_eq_self, hst, Oct.set_get_self]

theorem examineBank_memWf (b : Fin 8) {r : Brs} (h : memWf r.mem = true) : memWf (examineBank b r).mem = true := by
  unfold examineBank
  cases (r.banks.get b).st with
  | openBank | settling => exact memWf_memWrite _ _ _ h
  | free | closed => exact h

theorem examineBank_memRead_word9 (c : Fin 8) {r : Brs} (h : memWf r.mem = true) :
    memRead (examineBank c r).mem (cellAddr c 0 9) =
      examinedWord (r.banks.get c).st (memRead r.mem (cellAddr c 0 9)) := by
  unfold examineBank
  cases (r.banks.get c).st with
  | openBank | settling => exact memRead_memWrite_self _ _ _ h
  | free | closed => rfl

theorem examineBank_memRead_other (c : Fin 8) (r : Brs) {a : Nat} (ha : a ≠ cellAddr c 0 9) :
    memRead (examineBank c r).mem a = memRead r.mem a := by
  unfold examineBank
  cases (r.banks.get c).st with
  | openBank | settling => exact memRead_memWrite_other _ _ _ _ ha
  | free | closed => rfl

/-! ### All eight banks -/

/-- The examination of the banks of a list, in its order. -/
def examineBanks (l : List (Fin 8)) (r : Brs) : Brs := l.foldl (fun r b => examineBank b r) r

theorem examineBanks_cons (c : Fin 8) (l : List (Fin 8)) (r : Brs) :
    examineBanks (c :: l) r = examineBanks l (examineBank c r) := rfl

theorem examineBanks_memWf (l : List (Fin 8)) {r : Brs} (h : memWf r.mem = true) : memWf (examineBanks l r).mem = true := by
  induction l generalizing r with
  | nil => exact h
  | cons c l ih => exact ih (examineBank_memWf c h)

/-- Distinct banks are examined each by itself. -/
theorem examineBanks_get {l : List (Fin 8)} (hl : l.Nodup) (r : Brs) (b : Fin 8) :
    (examineBanks l r).banks.get b = if b ∈ l then (r.banks.get b).examined else r.banks.get b := by
  induction l generalizing r with
  | nil => rfl
  | cons c l ih =>
    obtain ⟨hc, hl⟩ := List.nodup_cons.1 hl
    rw [examineBanks_cons, ih hl, examineBank_banks, Oct.get_set]
    by_cases hb : b = c
    · subst hb; simp [hc]
    · simp [hb]

theorem examineBanks_memRead_other (l : List (Fin 8)) (r : Brs) {a : Nat} (ha : ∀ c ∈ l, a ≠ cellAddr c 0 9) :
    memRead (examineBanks l r).mem a = memRead r.mem a := by
  induction l generalizing r with
  | nil => rfl
  | cons c l ih =>
    obtain ⟨hc, hl⟩ := List.forall_mem_cons.1 ha
    rw [examineBanks_cons, ih _ hl, examineBank_memRead_other c r hc]

theorem examineBanks_memRead_word9 {l : List (Fin 8)} (hl : l.Nodup) {r : Brs} (h : memWf r.mem = true) {b : Fin 8}
    (hb : b ∈ l) :
    memRead (examineBanks l r).mem (cellAddr b 0 9) =
      examinedWord (r.banks.get b).st (memRead r.mem (cellAddr b 0 9)) := by
  induction l generalizing r with
  | nil => cases hb
  | cons c l ih =>
    obtain ⟨hc, hl⟩ := List.nodup_cons.1 hl
    rw [examineBanks_cons]
    rcases List.mem_cons.1 hb with rfl | hb
    · rw [examineBanks_memRead_other, examineBank_memRead_word9 b h]
      exact fun c' hc' => cellAddr_word9_ne fun hbc => hc (hbc ▸ hc')
    · have hbc : b ≠ c := fun hbc => hc (hbc ▸ hb)
      rw [ih hl (examineBank_memWf c h) hb, examineBank_banks, Oct.get_set, if_neg hbc,
        examineBank_memRead_other c r (cellAddr_word9_ne hbc)]

/-! ### The store and the part after power-on -/

theorem Brs.afterPowerOn_banks (r : Brs) (b : Fin 8) : r.afterPowerOn.banks.get b = (r.banks.get b).examined := by
  change (examineBanks (List.finRange 8) r).banks.get b = _
  rw [examineBanks_get (List.nodup_finRange 8), if_pos (List.mem_finRange b)]

/-- Of the record memory, power-on rewrites word 9 of each summary and nothing else (R168). -/
theorem Brs.afterPowerOn_memRead {r : Brs} (h : memWf r.mem = true) (b : Fin 8) {slot word : Nat} (hs : slot < 64)
    (hw : word < 16) :
    memRead r.afterPowerOn.mem (cellAddr b slot word) =
      if slot = 0 ∧ word = 9 then examinedWord (r.banks.get b).st (memRead r.mem (cellAddr b slot word))
      else memRead r.mem (cellAddr b slot word) := by
  change memRead (examineBanks (List.finRange 8) r).mem _ = _
  split
  case isTrue hcell =>
    obtain ⟨rfl, rfl⟩ := hcell
    exact examineBanks_memRead_word9 (List.nodup_finRange 8) h (List.mem_finRange b)
  case isFalse hcell =>
    refine examineBanks_memRead_other _ r fun c _ he => hcell ?_
    obtain ⟨-, hcell⟩ := (cellAddr_inj hs hw (by decide) (by decide)).1 he
    exact hcell

theorem examinationRecords_iff (r : Brs) :
    examinationRecords r = true ↔ ∃ b, (r.banks.get b).st = .openBank ∨ (r.banks.get b).st = .settling := by
  simp [examinationRecords, firstBank_isSome_iff]

/-- While no phase runs, a move of the heater gives no notice that could reach the store. -/
theorem heaterMove_brs {s : State} (h : s.imn.st.isAveraging = false) (f : Bhc → Bhc) : (heaterMove f s).brs = s.brs := by
  unfold heaterMove withNotice
  split
  · rw [takeNotice_eq_self (s := s.modBhc f) h, State.modBhc_brs]
  · rfl

theorem takePlugLevel_brs {s : State} (h : s.imn.st.isAveraging = false) : (takePlugLevel s).brs = s.brs := by
  have hrise : (cscPlugRise s).imn = s.imn ∧ (cscPlugRise s).brs = s.brs := by
    unfold cscPlugRise; split <;> simp
  obtain ⟨himn, hbrs⟩ := hrise
  unfold takePlugLevel
  split
  · rw [heaterMove_brs (by rw [himn]; exact h), hbrs]
  · rfl

theorem powerOn_brs (s : State) : (powerOn s).brs = s.brs.afterPowerOn := by
  unfold powerOn; dsimp only
  rw [takePlugLevel_brs (by split <;> rfl)]
  split <;> rfl

theorem powerOn_ttc (s : State) : (powerOn s).ttc = s.ttc.afterPowerOn := by
  unfold powerOn; dsimp only
  split <;> simp [powerOnBlocks]

/-- Of the Fleet Port's flags, none but RECORD can stand after power-on, for a bank that the examination closed. -/
theorem powerOn_fp_events (s : State) : (powerOn s).fp.events = if examinationRecords s.brs = true then 1 else 0 := by
  unfold powerOn; dsimp only
  split
  · simp [raiseFp, powerOnBlocks, PortState.startUp, PortState.reset, setFlag, FpEvent.bit]
  · simp [powerOnBlocks, PortState.startUp, PortState.reset]

/-- Settles O5: the examination bank by bank, and RECORD where it found one to close. -/
theorem powerOnClosesBanksLeftOpen : Obligations.PowerOnClosesBanksLeftOpen := by
  intro s hmem
  refine ⟨powerOn s, rfl, fun b => ?banks, fun b slot word hs hw => ?words, ?event, ?interval, ?day, ?second⟩
  case banks =>
    rw [powerOn_brs, Brs.afterPowerOn_banks]
    exact ⟨rfl, rfl⟩
  case words =>
    unfold recordWordAt
    rw [powerOn_brs, Brs.afterPowerOn_memRead hmem b hs hw]
    by_cases hcell : slot = 0 ∧ word = 9
    · obtain ⟨rfl, rfl⟩ := hcell
      cases (s.brs.banks.get b).st with
      | openBank => exact uncleanWord_open _
      | free | closed | settling => rfl
    · simp only [← and_assoc, hcell, false_and, if_false]
  case event =>
    rw [powerOn_fp_events, ← examinationRecords_iff]
    split <;> simp [*]
  case interval => rw [powerOn_brs]; rfl
  case day => rw [powerOn_ttc]; rfl
  case second => rw [powerOn_ttc]; rfl

end Sys2Proof.Machine
end

section
/-! SUPPORT. RETIRE_BANK through the operations of a vehicle restart: each of them leaves it as it is. -/
namespace Sys2Proof.Machine

/-! ### Records and closes -/

@[simp] theorem Brs.setFlags_retireBank (r : Brs) (bank : Fin 8) (truncated timeUnset disagree : Bool) :
    (r.setFlags bank truncated timeUnset disagree).retireBank = r.retireBank := by
  unfold Brs.setFlags; split <;> rfl

@[simp] theorem setBankState_retireBank (bank : Fin 8) (st : BankState) (s : State) :
    (setBankState bank st s).brs.retireBank = s.brs.retireBank := by
  simp [setBankState]

@[simp] theorem stampClose_retireBank (reason : Nat) (s : State) :
    (stampClose reason s).brs.retireBank = s.brs.retireBank := by
  simp [stampClose]

@[simp] theorem rewriteSummary_retireBank (bank : Fin 8) (s : State) :
    (rewriteSummary bank s).brs.retireBank = s.brs.retireBank := by
  simp [rewriteSummary]

@[simp] theorem appendRecord_retireBank (bank : Fin 8) (ws : List Word) (s : State) :
    (appendRecord bank ws s).brs.retireBank = s.brs.retireBank := by
  unfold appendRecord; dsimp only [State.modBrs]; split <;> simp

@[simp] theorem closeInterval_retireBank (bank : Fin 8) (part fin : Bool) (s : State) :
    (closeInterval bank part fin s).brs.retireBank = s.brs.retireBank := by
  simp [closeInterval]

@[simp] theorem handRecord_retireBank (kind : Nat) (w3 w4 w5 w6 w7 : Word) (s : State) :
    (handRecord kind w3 w4 w5 w6 w7 s).brs.retireBank = s.brs.retireBank := by
  unfold handRecord; split <;> simp

@[simp] theorem settle_retireBank (b : Fin 8) (s : State) : (settle b s).brs.retireBank = s.brs.retireBank := by
  unfold settle; split <;> simp

@[simp] theorem closeBank_retireBank (reason : Option StopReason) (s : State) :
    (closeBank reason s).brs.retireBank = s.brs.retireBank := by
  unfold closeBank; (repeat' split) <;> simp

/-! ### The heater, the monitor and the allocator -/

@[simp] theorem lockHeater_retireBank (c : LockCause) (s : State) : (lockHeater c s).brs.retireBank = s.brs.retireBank := by
  unfold lockHeater; dsimp only; split <;> simp [recordLockout]

@[simp] theorem answerUnlockCycle_retireBank (passed : Bool) (s : State) :
    (answerUnlockCycle passed s).brs.retireBank = s.brs.retireBank := by
  unfold answerUnlockCycle answerUnlock; (repeat' split) <;> simp

@[simp] theorem completeDisturbed_retireBank (s : State) : (completeDisturbed s).brs.retireBank = s.brs.retireBank := by
  simp only [completeDisturbed, imnIdle_frame, endDisturbedKind]
  split <;> simp

@[simp] theorem takeNotice_retireBank (s : State) : (takeNotice s).brs.retireBank = s.brs.retireBank := by
  unfold takeNotice; dsimp only; (repeat' split) <;> simp

@[simp] theorem heaterMove_retireBank (f : Bhc → Bhc) (s : State) : (heaterMove f s).brs.retireBank = s.brs.retireBank := by
  unfold heaterMove withNotice; split <;> simp

@[simp] theorem abandonCycle_retireBank (s : State) : (abandonCycle s).brs.retireBank = s.brs.retireBank := by
  unfold abandonCycle; dsimp only; (repeat' split) <;> simp

@[simp] theorem cutConverter_retireBank (s : State) : (cutConverter s).brs.retireBank = s.brs.retireBank := by
  unfold cutConverter cutSetpoint; dsimp only; split <;> simp

@[simp] theorem stopAllocation_retireBank (s : State) : (stopAllocation s).brs.retireBank = s.brs.retireBank := by
  unfold stopAllocation handGrant; dsimp only; (repeat' split) <;> simp

/-! ### The session and the restart -/

@[simp] theorem closeSession_retireBank (s : State) : (closeSession s).brs.retireBank = s.brs.retireBank := by
  have hsteps : (closeSteps false s).brs.retireBank = s.brs.retireBank := by
    unfold closeSteps; dsimp only; (repeat' split) <;> simp
  rw [closeSession, enterEnded_eq]
  split <;> simp [enterSession_other, hsteps]

@[simp] theorem cscRestart_retireBank (s : State) : (cscRestart s).brs.retireBank = s.brs.retireBank := by
  unfold cscRestart; dsimp only; (repeat' split) <;> simp [enterSession_other]

@[simp] theorem takePlugLevel_retireBank (s : State) : (takePlugLevel s).brs.retireBank = s.brs.retireBank := by
  unfold takePlugLevel cscPlugRise; (repeat' split) <;> simp

@[simp] theorem restartSteps_retireBank (s : State) : (restartSteps s).brs.retireBank = s.brs.retireBank := by
  simp [restartSteps, imnRestart]

theorem vehicleRestart_retireBank (s : State) : (vehicleRestart s).brs.retireBank = s.brs.retireBank := by
  unfold vehicleRestart handKeptVerdict; split <;> simp [heaterBranchFault]

end Sys2Proof.Machine
end

section
/-! Retiring a bank (R169): RETIRE_BANK at its writes, and RETIRE in each state of the bank it names. -/
namespace Sys2Proof.Machine

/-! ### Freeing a bank -/

theorem freeBank_get (b b' : Fin 8) (s : State) :
    (freeBank b s).brs.banks.get b' = if b' = b then ⟨.free, 2⟩ else s.brs.banks.get b' :=
  Oct.get_set _ _ _ _

/-- A freed bank reads as unwritten, and every other as before (R172). -/
theorem freeBank_recordWordAt (b b' : Fin 8) (s : State) {slot word : Nat} (hs : slot < 64) (hw : word < 16) :
    recordWordAt (freeBank b s) b' slot word = if b' = b then 0xFFFF else recordWordAt s b' slot word := by
  change memRead (memErase s.brs.mem _ _) _ = _
  simp only [memRead_memErase, cellAddr_mem_bank_iff hs hw]
  rfl

/-! ### RETIRE -/

section
variable {s : State} (v : Word)

theorem State.afterWord_brs (s : State) (p : Port) : (s.afterWord p).brs = s.brs := by simp [State.afterWord]

/-- A summary's first word is its session number (R173). -/
theorem bankSession_eq_toNat_iff (s : State) (b : Fin 8) (v : Word) : bankSession s b = v.toNat ↔ recordWordAt s b 0 0 = v :=
  BitVec.toNat_inj

theorem retireRefusal_closed (h : (s.brs.banks.get s.brs.retireBank).st = .closed) :
    retireRefusal s v = if recordWordAt s s.brs.retireBank 0 0 = v then none else some .mismatch := by
  simp only [retireRefusal, h, bankSession_eq_toNat_iff]

theorem retireRefusal_settling (h : (s.brs.banks.get s.brs.retireBank).st = .settling) : retireRefusal s v = some .busy := by
  simp only [retireRefusal, h]

theorem retireRefusal_open_or_free
    (h : (s.brs.banks.get s.brs.retireBank).st = .openBank ∨ (s.brs.banks.get s.brs.retireBank).st = .free) :
    retireRefusal s v = some .badState := by
  rcases h with h | h <;> simp only [retireRefusal, h]

variable (hfp : s.fp.takesWrites)
include hfp

theorem exec_retire : exec (.retire v) s = .next (retireAction v (s.afterWord .fp)) :=
  congrArg Host.Outcome.next (writeWord_of_takesWrites (p := .fp) hfp 0x69 (retireAction v))

theorem exec_retire_refused {r : WriteRefusal} (h : retireRefusal s v = some r) :
    exec (.retire v) s = .next (s.afterRefusal .fp r 0x69) := by
  have h' : retireRefusal (s.afterWord .fp) v = some r := h
  rw [exec_retire v hfp, retireAction, h']
  rfl

theorem exec_retire_frees (h : retireRefusal s v = none) :
    exec (.retire v) s = .next (freeBank s.brs.retireBank (s.afterWord .fp)) := by
  have h' : retireRefusal (s.afterWord .fp) v = none := h
  rw [exec_retire v hfp, retireAction, h', State.afterWord_brs]

theorem exec_write_retireBank :
    exec (.itemWrite .fp 0x68 v) s = .next { s.afterWord .fp with brs := { s.brs with retireBank := octOfWord v } } :=
  congrArg Host.Outcome.next (writeWord_of_takesWrites (p := .fp) hfp 0x68 (checkedWrite .fp 0x68 v))

end

theorem exec_restart {s : State} (h : s.vp.takesWrites) : exec .restart s = .next (vehicleRestart (s.afterWord .vp)) :=
  congrArg Host.Outcome.next (writeWord_of_takesWrites (p := .vp) h 0x21 vehicleRestart)

theorem freeBank_afterWord_keeps (b : Fin 8) (s : State) : keepsAllBut [.brs, .fp] s (freeBank b (s.afterWord .fp)) := by
  intro a ha
  cases a with
  | brs | fp => simp at ha
  | _ => simp [Area.same, State.afterWord]

/-- Settles O47: RETIRE_BANK through power-on, a restart and its write, and RETIRE by the state of the bank. -/
theorem retireFreesOnlyTheNamedSession : Obligations.RetireFreesOnlyTheNamedSession := by
  refine ⟨fun s => ⟨powerOn s, rfl, ?powerOn⟩, fun s hvp => ⟨_, exec_restart hvp, ?restart⟩, fun s v hfp => ?writes⟩
  case powerOn => rw [powerOn_brs]; rfl
  case restart => rw [vehicleRestart_retireBank, State.afterWord_brs]
  case writes =>
    refine ⟨exec_write_retireBank v hfp, rfl, fun hst hv => ?frees, fun hst hv => ?mismatch,
      fun hst => exec_retire_refused v hfp (retireRefusal_settling v hst),
      fun hst => exec_retire_refused v hfp (retireRefusal_open_or_free v hst)⟩
    case frees =>
      have hnone : retireRefusal s v = none := by rw [retireRefusal_closed v hst, if_pos hv]
      refine ⟨_, exec_retire_frees v hfp hnone, ?bank, fun b' hb' => ?banks, fun slot word hs hw => ?unwritten,
        fun b' slot word hb' hs hw => ?others, rfl, rfl, rfl, rfl, freeBank_afterWord_keeps _ s⟩
      case bank => rw [freeBank_get, if_pos rfl]
      case banks => rw [freeBank_get, if_neg hb', State.afterWord_brs]
      case unwritten => rw [freeBank_recordWordAt _ _ _ hs hw, if_pos rfl]
      case others => rw [freeBank_recordWordAt _ _ _ hs hw, if_neg hb']; rfl
    case mismatch =>
      refine exec_retire_refused v hfp ?_
      rw [retireRefusal_closed v hst, if_neg hv]

end Sys2Proof.Machine
end
